-- ==== Sys2Proof/Word.lean ====
section
/-! DEFINITION. The two word types of the machine: bytes and 16-bit words (`spec/00_scope.md` R13). -/

namespace Sys2Proof

/-- A byte, 8 bits (R13). -/
abbrev Byte := BitVec 8

/-- A word, 16 bits: addresses, pairs, SP and PC (R13). -/
abbrev Word := BitVec 16

end Sys2Proof
end

