-- ==== Sys2Proof/Machine/Bits.lean ====
section
/-! DEFINITION. Bit fields, byte order and sign extension (`spec/00_scope.md` R13). -/

namespace Sys2Proof

/-- `hi :: lo` as a word: the first-named byte is bits 15:8 (R21, R148). -/
def word16 (hi lo : Byte) : Word := hi ++ lo

/-- Bits 15:8. -/
def hi8 (w : Word) : Byte := w.extractLsb' 8 8

/-- Bits 7:0. -/
def lo8 (w : Word) : Byte := w.extractLsb' 0 8

/-- `sext_8`: a byte read as two's complement, as a word (R13, R150). -/
def sext8 (b : Byte) : Word := b.signExtend 16

/-- The flag bit as a number, 0 or 1. -/
def bitNat (b : Bool) : Nat := if b then 1 else 0

/-- A byte with bit `k` cleared (RES, R304). -/
def clearBit (v : Byte) (k : Nat) : Byte := v &&& ~~~((1 : Byte) <<< k)

/-- A byte with bit `k` set (SET, R305). -/
def setBit (v : Byte) (k : Nat) : Byte := v ||| ((1 : Byte) <<< k)

end Sys2Proof
end

