-- ==== Sys2Proof/Config.lean ====
section
/-! DEFINITION. What an implementation fixes: the parameters of `spec/00_scope.md` R6, as one plain record that the
state carries unchanged (so that a claim about every state is a claim about every value of the parameters), their
default values, and the free values of the model (constants without a body). -/

namespace Sys2Proof

/-- `MODE`: legacy monochrome or colour-capable (R5). -/
inductive Mode where
  | dmg
  | cgb
  deriving DecidableEq, Repr

/-- The cartridge's mode-selection flag, "distinguishing legacy-only / legacy-compatible / color-only titles" (R5, R532). -/
inductive ModeFlag where
  | legacyOnly
  | legacyCompatible
  | colourOnly
  deriving DecidableEq, Repr

/-- Three channel bytes of one framebuffer pixel (R45, R455). -/
structure Rgb where
  r : Byte
  g : Byte
  b : Byte
  deriving DecidableEq, Repr

/-- The `POWERUP` record of one `MODE` (R66), used on the first CPU step when there is no boot ROM. -/
structure PowerUp where
  a : Byte
  f : Byte
  b : Byte
  c : Byte
  d : Byte
  e : Byte
  h : Byte
  l : Byte
  sp : Word
  tCounter : Byte
  /-- (I/O offset, value) pairs applied in order as I/O writes (R66). -/
  ioWrites : List (BitVec 7 × Byte)
  deriving DecidableEq, Repr

/-- `VECTOR[0..4]`, by source (R354). -/
structure Vectors where
  vblank : Word
  lcdStatus : Word
  timer : Word
  serial : Word
  joypad : Word
  deriving DecidableEq, Repr

/-- `GRAY[0..3]`, shade 0 the lightest (R488). -/
structure Gray where
  shade0 : Byte
  shade1 : Byte
  shade2 : Byte
  shade3 : Byte
  deriving DecidableEq, Repr

/-- What the cartridge collaborator makes visible (R34, R545): the bank of its ROM at 0x4000 to 0x7FFF, the bank of its
RAM at 0xA000 to 0xBFFF and whether RAM is mapped there, with the rest of its own state as a number (log entry 8). -/
structure CartSelect where
  romBank : BitVec 16
  ramBank : BitVec 16
  ramOn : Bool
  own : Nat
  deriving DecidableEq, Repr

/-- The fixed windows of the default cartridge: bank 0 of each, RAM mapped (D44). -/
def CartSelect.initial : CartSelect := { romBank := 0, ramBank := 0, ramOn := true, own := 0 }

/-- `CART_WRITE_HOOK`: what a write to a cartridge ROM address does (R6, R78). -/
inductive CartWrite where
  /-- The default: the write raises `NotWritable`. -/
  | fatal
  /-- A hook that consumes every write and leaves the visible windows as they are (log entry 8). -/
  | consumed
  /-- A bank controller: the hook `Config.cartHook`, any function at all (log entry 8). -/
  | hook
  deriving DecidableEq, Repr

/-- The parameters a model takes (R6). `MODE`, which the cartridge's flag gives, the boot ROM, the
cartridge's bytes and the speed at reset stand in the state itself, beside this record. -/
structure Params where
  powerUpDmg : PowerUp
  powerUpCgb : PowerUp
  entryPoint : Word
  vectors : Vectors
  /-- `STOP_WAKE_MASK` (R174, C2). -/
  stopWakeMask : BitVec 5
  /-- `LYC_IRQ`, OPEN with no default (R456, U12). -/
  lycIrq : Bool
  /-- `GAP_READ_VALUE`, OPEN (R83). -/
  gapReadValue : Byte
  gray : Gray
  blank : Rgb
  /-- `SCREEN_W`, in pixels (log entry 20). -/
  screenW : Nat
  /-- `SCREEN_H`, in pixels (log entry 20). -/
  screenH : Nat
  /-- `SCALE5` as its table of 32 values, entry v the value of SCALE5(v) (R489). -/
  scale5 : Vector Byte 32
  /-- `CART_RAM`: 8192 bytes of RAM, or absent (R6). -/
  cartRamPresent : Bool
  cartWrite : CartWrite
  deriving DecidableEq, Repr

/-- R66, column `MODE = DMG`. -/
def PowerUp.dmgDefault : PowerUp :=
  { a := 0x01, f := 0xB0, b := 0x00, c := 0x13, d := 0x00, e := 0xD8, h := 0x01, l := 0x4D, sp := 0xFFFE,
    tCounter := 0x00, ioWrites := [] }

/-- R66, column `MODE = CGB`. -/
def PowerUp.cgbDefault : PowerUp :=
  { a := 0x11, f := 0x80, b := 0x00, c := 0x00, d := 0xFF, e := 0x56, h := 0x00, l := 0x0D, sp := 0xFFFE,
    tCounter := 0x00, ioWrites := [] }

/-- The default `SCALE5(v) = (v << 3) | (v >> 2)` (R6), written out for v = 0 .. 31. -/
def scale5Default : Vector Byte 32 :=
  #v[0x00, 0x08, 0x10, 0x18, 0x21, 0x29, 0x31, 0x39, 0x42, 0x4A, 0x52, 0x5A, 0x63, 0x6B, 0x73, 0x7B,
     0x84, 0x8C, 0x94, 0x9C, 0xA5, 0xAD, 0xB5, 0xBD, 0xC6, 0xCE, 0xD6, 0xDE, 0xE7, 0xEF, 0xF7, 0xFF]

/-- The defaults of R6. `LYC_IRQ` has none there: false here, the document's text to the letter (R456); a DESIGN
CHOICE (log entry 3) on which no statement rests. `GAP_READ_VALUE` is the value R6 suggests. -/
def Params.default : Params :=
  { powerUpDmg := PowerUp.dmgDefault
    powerUpCgb := PowerUp.cgbDefault
    entryPoint := 0x0100
    vectors := { vblank := 0x0040, lcdStatus := 0x0048, timer := 0x0050, serial := 0x0058, joypad := 0x0060 }
    stopWakeMask := 0x1F
    lycIrq := false
    gapReadValue := 0xFF
    gray := { shade0 := 0xFF, shade1 := 0xAA, shade2 := 0x55, shade3 := 0x00 }
    blank := { r := 0xFF, g := 0xFF, b := 0xFF }
    screenW := 160
    screenH := 144
    scale5 := scale5Default
    cartRamPresent := true
    cartWrite := .fatal }

/-- `POWERUP[MODE]` (R66). -/
def Params.powerUp (p : Params) : Mode → PowerUp
  | .dmg => p.powerUpDmg
  | .cgb => p.powerUpCgb

/-- `AUDIO_READ`: what the excluded audio collaborator answers to a read of I/O offset `off` (0x10 to 0x3F), a FREE
VALUE for each read: `k` counts the free values drawn so far (R112, U10; log entry 6). -/
opaque Config.audioRead : (off : Nat) → (k : Nat) → Byte

/-- The hook of a bank controller (`CART_WRITE_HOOK`, R78, R545): what the collaborator makes visible after a write of `v`
to the ROM address `addr`, or none where it does not consume the write. The collaborator is out of scope (R11), so
nothing is known of it but that it is a function: a claim about `CartWrite.hook` holds for every hook (log entry 8). -/
opaque Config.cartHook : (now : CartSelect) → (addr : Nat) → (v : Byte) → Option CartSelect

/-- What a read of the cartridge RAM window gives when no RAM is mapped there: the spec states no value, a FREE VALUE
for each read, `k` as above (R6 `CART_RAM` absent; log entry 9). -/
opaque Config.absentCartRamRead : (off : Nat) → (k : Nat) → Byte

end Sys2Proof
end

