-- ==== Sys2Proof/Machine/Cartridge.lean ====
section
/-! DEFINITION. What the cartridge's metadata settles when it is loaded: the operating mode (`spec/00_scope.md` R5,
`spec/70_reset_and_hazards.md` R532). -/

namespace Sys2Proof.Machine

/-- The `MODE` a mode-selection flag gives: legacy-only gives DMG, the other two give CGB (R6, R532). -/
def flagMode : ModeFlag → Mode
  | .legacyOnly => .dmg
  | .legacyCompatible => .cgb
  | .colourOnly => .cgb

end Sys2Proof.Machine
end

