-- ==== Sys2Proof/Machine/Cells.lean ====
section
/-! DEFINITION. Sparse storage: a list of (key, value) pairs in ONE canonical form. Keys rise strictly, every key is below
the size of the store, and no entry equals what an unlisted key reads as, so that equal stores are equal lists. Memory
segments, palette memories and framebuffers are all held this way. `d` is what an unlisted key reads as. -/

namespace Sys2Proof.Machine

/-- The value at key `a`: the listed one, else `d a`. -/
def Cells.read {α : Type} (d : Nat → α) : List (Nat × α) → Nat → α
  | [], a => d a
  | (k, v) :: m, a => if k = a then v else Cells.read d m a

/-- Stores `v` at key `a`, keeping the canonical form: storing what an unlisted key reads as removes the entry. -/
def Cells.write {α : Type} [DecidableEq α] (d : Nat → α) : List (Nat × α) → Nat → α → List (Nat × α)
  | [], a, v => if v = d a then [] else [(a, v)]
  | (k, w) :: m, a, v =>
    if a < k then (if v = d a then (k, w) :: m else (a, v) :: (k, w) :: m)
    else if a = k then (if v = d a then m else (a, v) :: m)
    else (k, w) :: Cells.write d m a v

/-- The canonical form of a store of `size` keys. -/
abbrev Cells.wf {α : Type} (d : Nat → α) (size : Nat) (m : List (Nat × α)) : Prop :=
  m.Pairwise (fun p q => p.1 < q.1) ∧ ∀ p ∈ m, p.1 < size ∧ p.2 ≠ d p.1

/-- A store of bytes. -/
abbrev Bytes := List Host.Cell

/-- What an unlisted byte of a memory segment or a palette memory reads as: 0x00 (`spec/10_state.md` R64, R69 for the
segments the CORE owns; for the host's ROM bytes see log entry 5). -/
def zeroByte (_ : Nat) : Byte := 0x00

/-- The byte at offset `a` of a segment. -/
def Bytes.read (m : Bytes) (a : Nat) : Byte := Cells.read zeroByte m a

/-- The segment with `v` at offset `a`. -/
def Bytes.write (m : Bytes) (a : Nat) (v : Byte) : Bytes := Cells.write zeroByte m a v

/-- The canonical form of a segment of `size` bytes. -/
abbrev Bytes.wf (size : Nat) (m : Bytes) : Prop := Cells.wf zeroByte size m

end Sys2Proof.Machine
end

