-- ==== Sys2Proof/Machine/State.lean ====
section
/-! DEFINITION. The state of the ts-gb CORE (`spec/10_state.md`), as plain data, and its value after reset. -/

namespace Sys2Proof.Machine

/-- The fatal errors (`spec/60_exceptions.md` R351), the reasons the machine can stop. Each is raised INSIDE the machine:
the field `fault` of the state takes it, the rest of the external tick is abandoned and every later tick is the identity
(R350), so a fatal error is a next state and no step answers `Host.Outcome.fault` (log entry 2; safe). -/
inductive Fault where
  /-- An unknown opcode byte and the address it was fetched from. Raised by the eleven unknown opcodes (R346). Safe: the
  spec's own stop. -/
  | unknownOpcode (op : Byte) (addr : Word)
  /-- A bus address outside 0x0000 to 0xFFFF. Raised only for a host poke with a bad address (R71 to R73). Safe. -/
  | outOfRange (addr : Int)
  /-- A write to a read-only segment. Raised by a bus write to 0x0000 to 0x7FFF (R77, R78). Safe. -/
  | notWritable (addr : Nat)
  /-- A bus access to a cartridge region with no cartridge loaded (R78, C3). Safe. -/
  | notAvailable (addr : Nat)
  /-- A gated transfer whose source or destination block is invalid. Raised by the write to 0xFF55 (R432). Safe. -/
  | hdmaBadAddress (src dst : Word) (len : Nat)
  deriving DecidableEq, Repr

/-- Why the model gives an instruction no meaning. -/
inductive Refusal where
  /-- The instruction has no meaning in the model yet: raised by an arm of `exec` only (no arm does). Safe. -/
  | notModelled (mnemonic : String)
  deriving DecidableEq, Repr

/-- `cpu_state` (R28). -/
inductive RunState where
  | reset
  | running
  | halted
  | stopped
  deriving DecidableEq, Repr

/-- The register file and the CPU's control state (R20 to R30). -/
structure Cpu where
  a : Byte
  /-- The flag register: Z = F[7], N = F[6], H = F[5], C = F[4], F[3:0] = 0 (R24, R25). -/
  f : Byte
  b : Byte
  c : Byte
  d : Byte
  e : Byte
  h : Byte
  l : Byte
  sp : Word
  pc : Word
  /-- Interrupts globally enabled (R27). -/
  ime : Bool
  runState : RunState
  /-- The HALT bug is armed (R29). -/
  haltBug : Bool
  /-- CPU steps still to be skipped (R30). -/
  pendingCycles : Nat
  /-- The variable `a` of `FetchExecute` (R177): the address the opcode now executing was fetched from. Read only by the
  unknown opcodes (R346). The MODEL's own field (log entry 7). -/
  opcodeAddr : Word
  deriving DecidableEq, Repr

/-- The interrupt registers, five stored bits each (R31, R32). -/
structure Interrupts where
  /-- IF: the pending sources. -/
  pending : BitVec 5
  /-- IE: the enabled sources. -/
  enabled : BitVec 5
  deriving DecidableEq, Repr

/-- Bank selection (R34). -/
structure Banks where
  bootRomEnabled : Bool
  vramBank : BitVec 1
  wramBank : BitVec 3
  /-- What the cartridge collaborator makes visible; only its hook changes it (R34, R545). -/
  cart : CartSelect
  deriving DecidableEq, Repr

/-- The memory segments (R33), each by the offset R76 gives; `vram` holds bank b at offset b × 8192, `wram` bank b at
offset b × 4096, and the cartridge's switchable ROM and RAM hold bank b at b × 16384 and b × 8192. `io` holds the raw stored byte of each I/O offset (R35). IE, one byte, stands with the interrupts. -/
structure Memory where
  bootRom : Bytes
  cartRom0 : Bytes
  cartRomX : Bytes
  vram : Bytes
  cartRam : Bytes
  wram : Bytes
  oam : Bytes
  io : Bytes
  hram : Bytes
  deriving DecidableEq, Repr

/-- All the banks of a cartridge's switchable ROM, in bytes (log entry 8). -/
abbrev cartRomSize : Nat := 65536 * 16384

/-- All the banks of a cartridge's switchable RAM, in bytes (log entry 8). -/
abbrev cartRamSize : Nat := 65536 * 8192

/-- Every segment is in its canonical form, at the size R33 gives it, the cartridge's switchable ones with all their
banks. -/
abbrev Memory.wf (m : Memory) : Prop :=
  Bytes.wf 256 m.bootRom ∧ Bytes.wf 16384 m.cartRom0 ∧ Bytes.wf cartRomSize m.cartRomX ∧ Bytes.wf 16384 m.vram ∧
    Bytes.wf cartRamSize m.cartRam ∧ Bytes.wf 32768 m.wram ∧ Bytes.wf 160 m.oam ∧ Bytes.wf 128 m.io ∧ Bytes.wf 127 m.hram

/-- The Timer (R37). -/
structure Timer where
  counter : Byte
  div : Byte
  tima : Byte
  tma : Byte
  running : Bool
  rate : BitVec 2
  deriving DecidableEq, Repr

/-- The immediate (OAM) transfer (R38). -/
structure OamTransfer where
  active : Bool
  src : Word
  ticks : Nat
  copied : Nat
  deriving DecidableEq, Repr

/-- The sub-modes of the gated transfer (R433). -/
inductive HdmaMode where
  | general
  | hblank
  deriving DecidableEq, Repr

/-- The gated (HDMA) transfer (R39). -/
structure HdmaTransfer where
  active : Bool
  mode : HdmaMode
  src : Word
  dst : Word
  len : Nat
  copied : Nat
  stopped : Bool
  /-- false: the idle tick of a pair comes next; true: the copying one (R434). -/
  phase : Bool
  deriving DecidableEq, Repr

/-- The eight fields of LCDC, in bit order 7 to 0 (R40, R458). -/
structure Lcdc where
  lcdOn : Bool
  winMap : Bool
  winEn : Bool
  tileData : Bool
  bgMap : Bool
  objSize : Bool
  objEn : Bool
  bgEn : Bool
  deriving DecidableEq, Repr

/-- The four video modes (R41, R452). -/
inductive VideoMode where
  | hblank
  | vblank
  | oamSearch
  | pixelTransfer
  deriving DecidableEq, Repr

/-- A framebuffer, by line: the pixels of a line, an unlisted line being all `BLANK` (R45; log entry 10). -/
abbrev Frame := List (Nat × List Rgb)

/-- The Video unit (R40 to R45). `lcd_on` is the LCD power field of `lcdc`. The raw video registers of R42 stand in the
I/O segment; the sprite cache is a function of OAM (R44) and is not stored. -/
structure Video where
  lcdc : Lcdc
  line : Nat
  lineT : Nat
  mode : VideoMode
  enableDelay : Nat
  coincidence : Bool
  bcps : Byte
  ocps : Byte
  bgPal : Bytes
  objPal : Bytes
  /-- Which framebuffer is the front: false for `fb0`. -/
  frontSel : Bool
  fb0 : Frame
  fb1 : Frame
  deriving DecidableEq, Repr

/-- The host's moves on CORE state between two external ticks (`spec/70_reset_and_hazards.md` R545). -/
inductive HostMove where
  /-- `HostPress(k)` (R100). -/
  | press (k : Fin 8)
  /-- `HostRelease(k)` (R100). -/
  | release (k : Fin 8)
  /-- "Poke memory": a `BusWrite` from outside (R545). -/
  | poke (addr : Int) (v : Byte)
  deriving DecidableEq, Repr

/-- The whole machine. -/
structure State where
  /-- The parameters (`spec/00_scope.md` R6); no step changes them. -/
  params : Params
  /-- `MODE` (R36); no step changes it. -/
  mode : Mode
  /-- A boot ROM was loaded before the first tick (R6 `BOOT_ROM`). -/
  bootLoaded : Bool
  /-- A cartridge was loaded before the first tick (R78). -/
  cartLoaded : Bool
  /-- The double-speed flag (R36); no step changes it. -/
  doubleSpeed : Bool
  cpu : Cpu
  ints : Interrupts
  banks : Banks
  mem : Memory
  timer : Timer
  oamDma : OamTransfer
  hdma : HdmaTransfer
  video : Video
  /-- Bit k is 1 while joypad button k is pressed (R46). -/
  buttons : BitVec 8
  /-- The fatal error the machine is stopped by, if any (R47). -/
  fault : Option Fault
  /-- The host's schedule: the moves it makes before the next tick, before the one after, and so on (R48, R546). -/
  host : List (List HostMove)
  /-- How many free values have been drawn. The MODEL's own field (log entry 6). -/
  freeDraws : Nat
  deriving DecidableEq, Repr

/-- A cartridge as the CORE sees it: its mode-selection flag, read when it is loaded and never again (R5, R532), the bytes of
its fixed ROM bank and of its switchable ones (R78), and what is visible of them after the collaborator's reset, which comes with
the cartridge by the model's choice (log entry 8). -/
structure Cartridge where
  flag : ModeFlag
  rom0 : Bytes
  romX : Bytes
  visible : CartSelect
  deriving DecidableEq, Repr

/-- What the host supplies before the first tick (R545, R546). `doubleSpeed` is `DOUBLE_SPEED_AT_RESET`; that it may hold
with `MODE = DMG` too is the model's choice (log entry 23). `modeUnloaded` is `MODE` where no cartridge is loaded, which the
spec does not settle (log entry 24). -/
structure Launch where
  params : Params
  modeUnloaded : Mode
  bootRom : Option Bytes
  cartridge : Option Cartridge
  doubleSpeed : Bool
  host : List (List HostMove)
  deriving DecidableEq, Repr

/-- `MODE`, fixed when the cartridge is loaded, from its mode-selection flag (R5, R532). -/
def Launch.mode (l : Launch) : Mode :=
  match l.cartridge with
  | some c => flagMode c.flag
  | none => l.modeUnloaded

/-- The machine after construction and loading, before the first tick (R60 to R69, R520). -/
def State.launch (l : Launch) : State :=
  { params := l.params
    mode := l.mode
    bootLoaded := l.bootRom.isSome
    cartLoaded := l.cartridge.isSome
    doubleSpeed := l.doubleSpeed
    cpu :=
      { a := 0, f := 0, b := 0, c := 0, d := 0, e := 0, h := 0, l := 0, sp := 0, pc := 0
        ime := false, runState := .reset, haltBug := false, pendingCycles := 0, opcodeAddr := 0 }
    ints := { pending := 0, enabled := 0 }
    banks :=
      { bootRomEnabled := l.bootRom.isSome, vramBank := 0, wramBank := 1
        cart := (l.cartridge.map (·.visible)).getD .initial }
    mem :=
      { bootRom := l.bootRom.getD []
        cartRom0 := (l.cartridge.map (·.rom0)).getD []
        cartRomX := (l.cartridge.map (·.romX)).getD []
        vram := [], cartRam := [], wram := [], oam := [], io := [], hram := [] }
    timer := { counter := 0, div := 0, tima := 0, tma := 0, running := false, rate := 0 }
    oamDma := { active := false, src := 0, ticks := 0, copied := 0 }
    hdma :=
      { active := false, mode := .general, src := 0, dst := 0, len := 0, copied := 0, stopped := false, phase := false }
    video :=
      { lcdc :=
          { lcdOn := false, winMap := false, winEn := false, tileData := false, bgMap := false, objSize := false
            objEn := false, bgEn := false }
        line := 0, lineT := 0, mode := .hblank, enableDelay := 0, coincidence := true, bcps := 0, ocps := 0
        bgPal := [], objPal := [], frontSel := false, fb0 := [], fb1 := [] }
    buttons := 0
    fault := none
    host := l.host
    freeDraws := 0 }

/-- The launch that `State.reset` stands for: the default parameters, no boot ROM, a legacy-only cartridge, so that `MODE` is DMG,
with no byte listed, normal speed, no host move (log entry 4). -/
def Launch.default : Launch :=
  { params := Params.default, modeUnloaded := .dmg, bootRom := none
    cartridge := some { flag := .legacyOnly, rom0 := [], romX := [], visible := .initial }
    doubleSpeed := false, host := [] }

/-- The machine right after reset. -/
def State.reset : State := State.launch Launch.default

end Sys2Proof.Machine
end

