-- ==== Sys2Proof/Machine/Regs.lean ====
section
/-! DEFINITION. The named updates of the state, the register file, and the result of an operation that can end in a fatal
error. -/

namespace Sys2Proof.Machine

/-- What every meaning answers. -/
abbrev Out := Host.Outcome State Fault Refusal

/-! ### Operations that can raise a fatal error -/

/-- An operation goes on with a value and a state, or a fatal error was raised in it: then the rest of the step is
abandoned and the state stays as the raise found it, its `fault` field set (R350). -/
inductive Res (α : Type) where
  | ok (v : α) (s : State)
  | fatal (s : State)
  deriving DecidableEq, Repr

/-- Goes on with `f` unless a fatal error was raised. -/
def Res.bind {α β : Type} (r : Res α) (f : α → State → Res β) : Res β :=
  match r with
  | .ok v s => f v s
  | .fatal s => .fatal s

/-- The state an operation ends in. -/
def Res.state {α : Type} : Res α → State
  | .ok _ s => s
  | .fatal s => s

/-! ### Named updates of the state -/

/-- `PC <- v` (R23). -/
def State.setPc (s : State) (v : Word) : State := { s with cpu := { s.cpu with pc := v } }

/-- `SP <- v` (R22). -/
def State.setSp (s : State) (v : Word) : State := { s with cpu := { s.cpu with sp := v } }

/-- `A <- v`. -/
def State.setA (s : State) (v : Byte) : State := { s with cpu := { s.cpu with a := v } }

/-- `F <- v`: the low four bits of F stay 0 (R25). -/
def State.setF (s : State) (v : Byte) : State := { s with cpu := { s.cpu with f := v &&& 0xF0 } }

/-- `B <- v`. -/
def State.setB (s : State) (v : Byte) : State := { s with cpu := { s.cpu with b := v } }

/-- `C <- v`. -/
def State.setC (s : State) (v : Byte) : State := { s with cpu := { s.cpu with c := v } }

/-- `D <- v`. -/
def State.setD (s : State) (v : Byte) : State := { s with cpu := { s.cpu with d := v } }

/-- `E <- v`. -/
def State.setE (s : State) (v : Byte) : State := { s with cpu := { s.cpu with e := v } }

/-- `H <- v`. -/
def State.setH (s : State) (v : Byte) : State := { s with cpu := { s.cpu with h := v } }

/-- `L <- v`. -/
def State.setL (s : State) (v : Byte) : State := { s with cpu := { s.cpu with l := v } }

/-- `IME <- v` (R27). -/
def State.setIme (s : State) (v : Bool) : State := { s with cpu := { s.cpu with ime := v } }

/-- `cpu_state <- v` (R28). -/
def State.setRunState (s : State) (v : RunState) : State := { s with cpu := { s.cpu with runState := v } }

/-- `halt_bug <- v` (R29). -/
def State.setHaltBug (s : State) (v : Bool) : State := { s with cpu := { s.cpu with haltBug := v } }

/-- `pending_cycles <- v` (R30). -/
def State.setPending (s : State) (v : Nat) : State := { s with cpu := { s.cpu with pendingCycles := v } }

/-- Notes the address an opcode is fetched from (R177). -/
def State.setOpcodeAddr (s : State) (v : Word) : State := { s with cpu := { s.cpu with opcodeAddr := v } }

/-- `IF <- v` (R31). -/
def State.setIF (s : State) (v : BitVec 5) : State := { s with ints := { s.ints with pending := v } }

/-- `IE <- v` (R31). -/
def State.setIE (s : State) (v : BitVec 5) : State := { s with ints := { s.ints with enabled := v } }

/-- The state with other memory segments. -/
def State.setMem (s : State) (m : Memory) : State := { s with mem := m }

/-- The state with another bank selection. -/
def State.setBanks (s : State) (b : Banks) : State := { s with banks := b }

/-- The state with another Timer. -/
def State.setTimer (s : State) (t : Timer) : State := { s with timer := t }

/-- The state with another immediate transfer. -/
def State.setOamDma (s : State) (o : OamTransfer) : State := { s with oamDma := o }

/-- The state with another gated transfer. -/
def State.setHdma (s : State) (h : HdmaTransfer) : State := { s with hdma := h }

/-- The state with another Video unit. -/
def State.setVideo (s : State) (v : Video) : State := { s with video := v }

/-- The state with other joypad buttons pressed. -/
def State.setButtons (s : State) (b : BitVec 8) : State := { s with buttons := b }

/-- The state with another schedule of host moves. -/
def State.setHost (s : State) (h : List (List HostMove)) : State := { s with host := h }

/-- One more free value has been drawn. -/
def State.drawFree (s : State) : State := { s with freeDraws := s.freeDraws + 1 }

/-- `fault <- (kind, info)` (R350). -/
def State.setFault (s : State) (e : Fault) : State := { s with fault := some e }

/-- `raise Fatal(kind, info)`: the fault state is entered and the step abandoned (R350). -/
def raiseFatal {α : Type} (e : Fault) (s : State) : Res α := .fatal (s.setFault e)

/-! ### The pair views (R21) -/

/-- `BC = (B << 8) | C`. -/
def State.bc (s : State) : Word := word16 s.cpu.b s.cpu.c

/-- `DE = (D << 8) | E`. -/
def State.de (s : State) : Word := word16 s.cpu.d s.cpu.e

/-- `HL = (H << 8) | L`. -/
def State.hl (s : State) : Word := word16 s.cpu.h s.cpu.l

/-- `AF = (A << 8) | F`. -/
def State.af (s : State) : Word := word16 s.cpu.a s.cpu.f

/-- Writing a pair writes both halves (R21). -/
def State.setBc (s : State) (v : Word) : State := (s.setB (hi8 v)).setC (lo8 v)

/-- Writing a pair writes both halves (R21). -/
def State.setDe (s : State) (v : Word) : State := (s.setD (hi8 v)).setE (lo8 v)

/-- Writing a pair writes both halves (R21). -/
def State.setHl (s : State) (v : Word) : State := (s.setH (hi8 v)).setL (lo8 v)

/-- Writing AF forces F[3:0] to 0 (R21, R25). -/
def State.setAf (s : State) (v : Word) : State := (s.setA (hi8 v)).setF (lo8 v)

/-! ### The interrupt registers -/

/-- The five interrupt sources, in priority order (R31, R354). -/
inductive IntSource where
  | vblank
  | lcdStatus
  | timer
  | serial
  | joypad
  deriving DecidableEq, Repr

/-- The bit index of a source: its priority, 0 the highest (R31). -/
def IntSource.index : IntSource → Nat
  | .vblank => 0
  | .lcdStatus => 1
  | .timer => 2
  | .serial => 3
  | .joypad => 4

/-- `VECTOR[k]` (R354). -/
def IntSource.vector (v : Vectors) : IntSource → Word
  | .vblank => v.vblank
  | .lcdStatus => v.lcdStatus
  | .timer => v.timer
  | .serial => v.serial
  | .joypad => v.joypad

/-- The mask with the source's bit only. -/
def IntSource.mask (k : IntSource) : BitVec 5 := (1 : BitVec 5) <<< k.index

/-- `RaiseInterrupt(k)`: `IF[k] <- 1` and nothing else (R357). -/
def State.raiseInterrupt (s : State) (k : IntSource) : State := s.setIF (s.ints.pending ||| k.mask)

/-- The sources that are both pending and enabled, `IE & IF & 0x1F` (R175). -/
def State.dispatchable (s : State) : BitVec 5 := s.ints.enabled &&& s.ints.pending

end Sys2Proof.Machine
end

