-- ==== Sys2Proof/Machine/TimerRegs.lean ====
section
/-! DEFINITION. The programmable Timer (`spec/61_timer.md`): its step and what a write to its registers does. -/

namespace Sys2Proof.Machine

/-- `PERIOD[t_rate]` in Timer steps (R404). -/
def timerPeriod (rate : BitVec 2) : Nat :=
  match rate.toFin with
  | 0 => 256
  | 1 => 4
  | 2 => 16
  | 3 => 64

/-- The first half of `TimerStep` (R401): the internal counter and the divider. -/
def Timer.count (t : Timer) : Timer :=
  let c := t.counter + 1
  { t with counter := c, div := if c.toNat % 64 = 0 then t.div + 1 else t.div }

/-- An increment of `tima` falls on this step: the counter, already advanced, is a multiple of the period (R401). -/
def Timer.timaDue (t : Timer) : Bool := t.running && t.counter.toNat % timerPeriod t.rate == 0

/-- `TimerStep()` (R401, R405): on overflow `tima` takes `tma` and the timer interrupt is raised in the same step. -/
def timerStep (s : State) : State :=
  let t := s.timer.count
  if t.timaDue then
    if t.tima = 0xFF then (s.setTimer { t with tima := t.tma }).raiseInterrupt .timer
    else s.setTimer { t with tima := t.tima + 1 }
  else s.setTimer t

/-- A write to DIV, whatever the value: the internal counter and the divider become 0 (R102, R402). -/
def Timer.writeDiv (t : Timer) : Timer := { t with counter := 0, div := 0 }

/-- A write to TAC (R105). -/
def Timer.writeTac (t : Timer) (v : Byte) : Timer :=
  { t with running := v.getLsbD 2, rate := v.extractLsb' 0 2 }

/-- A read of TAC: `0xF8 | (t_running << 2) | t_rate` (R105). -/
def Timer.readTac (t : Timer) : Byte :=
  0xF8 ||| ((BitVec.ofBool t.running).setWidth 8 <<< 2) ||| t.rate.setWidth 8

end Sys2Proof.Machine
end

