-- ==== Sys2Proof/Machine/VideoRegs.lean ====
section
/-! DEFINITION. The Video unit's registers and the parts of its state machine a register write can run
(`spec/63_video.md` sections 2, 3 and 6). -/

namespace Sys2Proof.Machine

/-- The number of a mode in STAT[1:0] (R452). -/
def VideoMode.number : VideoMode → Nat
  | .hblank => 0
  | .vblank => 1
  | .oamSearch => 2
  | .pixelTransfer => 3

/-- The eight fields of LCDC from a written byte (R458, R459). -/
def Lcdc.ofByte (v : Byte) : Lcdc :=
  { lcdOn := v.getLsbD 7, winMap := v.getLsbD 6, winEn := v.getLsbD 5, tileData := v.getLsbD 4
    bgMap := v.getLsbD 3, objSize := v.getLsbD 2, objEn := v.getLsbD 1, bgEn := v.getLsbD 0 }

/-- The eight fields of LCDC re-encoded (R107). -/
def Lcdc.toByte (c : Lcdc) : Byte :=
  BitVec.ofBool c.lcdOn ++ BitVec.ofBool c.winMap ++ BitVec.ofBool c.winEn ++ BitVec.ofBool c.tileData ++
    BitVec.ofBool c.bgMap ++ BitVec.ofBool c.objSize ++ BitVec.ofBool c.objEn ++ BitVec.ofBool c.bgEn

/-- The stored byte of an I/O offset (R35). -/
def State.ioRaw (s : State) (off : Nat) : Byte := s.mem.io.read off

/-- Stores the raw byte of an I/O offset (R35). -/
def State.setIoRaw (s : State) (off : Nat) (v : Byte) : State := s.setMem { s.mem with io := s.mem.io.write off v }

/-- STAT, the stored byte with the interrupt-enable bits (R460). -/
def State.statRaw (s : State) : Byte := s.ioRaw 0x41

/-- LYC (R42). -/
def State.lyc (s : State) : Byte := s.ioRaw 0x45

/-- `LY = LYC`. -/
def State.lyMatch (s : State) : Bool := s.video.line == s.lyc.toNat

/-- `CompareLYC()` (R456). Whether a match interrupts is the parameter `LYC_IRQ`. -/
def compareLyc (s : State) : State :=
  let s' := s.setVideo { s.video with coincidence := s.lyMatch }
  if s.params.lycIrq && s.video.lcdc.lcdOn && !s.video.coincidence && s.lyMatch && s.statRaw.getLsbD 6 then
    s'.raiseInterrupt .lcdStatus
  else s'

/-- `SetLine(n)` (R456). -/
def setLine (n : Nat) (s : State) : State := compareLyc (s.setVideo { s.video with line := n })

/-- `EnterMode(m)` (R454). -/
def enterMode (m : VideoMode) (s : State) : State :=
  let s := s.setVideo { s.video with mode := m }
  if s.video.lcdc.lcdOn then
    let s := if m = .vblank then s.raiseInterrupt .vblank else s
    if m ≠ .pixelTransfer ∧ s.statRaw.getLsbD (3 + m.number) then s.raiseInterrupt .lcdStatus else s
  else s

/-- The front framebuffer (R45). -/
def Video.front (v : Video) : Frame := if v.frontSel then v.fb1 else v.fb0

/-- The back framebuffer (R45). -/
def Video.back (v : Video) : Frame := if v.frontSel then v.fb0 else v.fb1

/-- The Video unit with another back framebuffer; the front one is not touched (R455). -/
def Video.setBack (v : Video) (f : Frame) : Video := if v.frontSel then { v with fb0 := f } else { v with fb1 := f }

/-- LCD disable (R463). Every line of the back buffer is `BLANK`, which is the buffer with no line listed. -/
def lcdDisable (s : State) : State :=
  let v := (s.video.setBack [])
  let s := setLine 0 (s.setVideo { v with lineT := 0 })
  s.setVideo { s.video with mode := .hblank, enableDelay := 0 }

/-- LCD enable (R462). -/
def lcdEnable (s : State) : State := s.setVideo { s.video with enableDelay := 61 }

/-- A write to LCDC: all eight fields at once, then the LCD power transition if bit 7 changed (R459). -/
def writeLcdc (v : Byte) (s : State) : State :=
  let was := s.video.lcdc.lcdOn
  let s := s.setVideo { s.video with lcdc := Lcdc.ofByte v }
  if was && !s.video.lcdc.lcdOn then lcdDisable s
  else if !was && s.video.lcdc.lcdOn then lcdEnable s
  else s

/-- A read of STAT: `0x80 | (io[0x41] & 0x78) | (coincidence << 2) | mode_number` (R108). -/
def readStat (s : State) : Byte :=
  0x80 ||| (s.statRaw &&& 0x78) ||| ((BitVec.ofBool s.video.coincidence).setWidth 8 <<< 2) |||
    BitVec.ofNat 8 s.video.mode.number

/-- A write to STAT stores bits 6:3 and raises nothing (R108). -/
def writeStat (v : Byte) (s : State) : State := s.setIoRaw 0x41 (v &&& 0x78)

/-- A write to LYC, then the LY compare (R111). -/
def writeLyc (v : Byte) (s : State) : State := compareLyc (s.setIoRaw 0x45 v)

/-- The byte index of a palette index register: bits 5:0 (R497). -/
def palIndex (r : Byte) : Nat := (r.extractLsb' 0 6).toNat

/-- The palette index register after a data write: bits 5:0 step by one, modulo 64, if bit 7 is set (R498). -/
def palStep (r : Byte) : Byte :=
  if r.getLsbD 7 then (r &&& 0xC0) ||| ((r + 1) &&& 0x3F) else r

/-- A write to BCPD (R498). -/
def writeBcpd (v : Byte) (s : State) : State :=
  s.setVideo { s.video with bgPal := s.video.bgPal.write (palIndex s.video.bcps) v, bcps := palStep s.video.bcps }

/-- A write to OCPD (R499). -/
def writeOcpd (v : Byte) (s : State) : State :=
  s.setVideo { s.video with objPal := s.video.objPal.write (palIndex s.video.ocps) v, ocps := palStep s.video.ocps }

end Sys2Proof.Machine
end

