-- ==== Sys2Proof/Machine/TransferRegs.lean ====
section
/-! DEFINITION. How a register write starts or stops a memory transfer, and the transfer status read
(`spec/62_transfer_engines.md`). -/

namespace Sys2Proof.Machine

/-- A write to 0xFF46 starts an immediate transfer, abandoning one in flight (R421). -/
def writeDma (v : Byte) (s : State) : State :=
  (s.setIoRaw 0x46 v).setOamDma { active := true, src := word16 v 0x00, ticks := 0, copied := 0 }

/-- Two raw I/O bytes as an address with its low four bits dropped (R431). -/
def State.hdmaAddr (s : State) (hiOff loOff : Nat) : Word := word16 (s.ioRaw hiOff) (s.ioRaw loOff) &&& 0xFFF0

/-- `len <- ((v & 0x7F) + 1) × 16` (R431). -/
def hdmaLength (v : Byte) : Nat := ((v &&& 0x7F).toNat + 1) * 16

/-- `Valid(src, dst, len)` (R432). -/
def hdmaValid (src dst : Word) (len : Nat) : Bool :=
  decide (0x8000 ≤ dst.toNat ∧ dst.toNat + len - 1 ≤ 0x9FFF ∧
    (src.toNat + len - 1 ≤ 0x7FFF ∨ (0xA000 ≤ src.toNat ∧ src.toNat + len - 1 ≤ 0xBFFF)))

/-- An HBlank-gated transfer is under way, so that a write to 0xFF55 with bit 7 clear stops it (R430, R436). -/
def HdmaTransfer.stoppable (h : HdmaTransfer) : Bool := h.active && !h.stopped && h.mode == .hblank

/-- `HdmaWrite(v)` (R430). -/
def writeHdma (v : Byte) (s : State) : Res Unit :=
  if s.hdma.stoppable && !v.getLsbD 7 then .ok () (s.setHdma { s.hdma with stopped := true })
  else
    let src := s.hdmaAddr 0x51 0x52
    let dst := s.hdmaAddr 0x53 0x54
    let len := hdmaLength v
    if hdmaValid src dst len then
      .ok () (s.setHdma
        { active := true, mode := if v.getLsbD 7 then .hblank else .general, src := src, dst := dst, len := len
          copied := 0, stopped := false, phase := false })
    else raiseFatal (.hdmaBadAddress src dst len) s

/-- A read of 0xFF55 in colour mode (R437). -/
def HdmaTransfer.status (h : HdmaTransfer) : Byte :=
  if h.active then
    (BitVec.ofBool h.stopped).setWidth 8 <<< 7 ||| BitVec.ofNat 8 ((h.len - h.copied + 15) / 16 - 1)
  else 0xFF

end Sys2Proof.Machine
end

