-- ==== Sys2Proof/Machine/Ops.lean ====
section
/-! DEFINITION. The Bus: the address map, the I/O register decoder and the access primitives (`spec/20_memory.md`); the
stack (`spec/42_load16_stack.md`); taking an interrupt and returning from one (`spec/60_exceptions.md`). -/

namespace Sys2Proof.Machine

/-! ### The address map (R76) -/

/-- The region that owns an address, with the offset in its backing segment (R76). -/
inductive Region where
  | bootRom (off : Nat)
  | cartRom0 (off : Nat)
  | cartRomX (off : Nat)
  | vram (off : Nat)
  | cartRam (off : Nat)
  | wram (off : Nat)
  | oam (off : Nat)
  | gap
  | io (off : Nat)
  | hram (off : Nat)
  | ie
  | outside
  deriving DecidableEq, Repr

/-- An echo address stands for the one 0x2000 below it (R81). -/
def unEcho (a : Nat) : Nat := if 0xE000 ≤ a ∧ a ≤ 0xFDFF then a - 0x2000 else a

/-- The region of an address that is no echo, under the current bank selection (R76 to R86). -/
def locateDirect (b : Banks) (a : Nat) : Region :=
  if a ≤ 0x00FF ∧ b.bootRomEnabled then .bootRom a
  else if a ≤ 0x3FFF then .cartRom0 a
  else if a ≤ 0x7FFF then .cartRomX (b.cart.romBank.toNat * 0x4000 + (a - 0x4000))
  else if a ≤ 0x9FFF then .vram (b.vramBank.toNat * 0x2000 + (a - 0x8000))
  else if a ≤ 0xBFFF then .cartRam (b.cart.ramBank.toNat * 0x2000 + (a - 0xA000))
  else if a ≤ 0xCFFF then .wram (a - 0xC000)
  else if a ≤ 0xDFFF then .wram (b.wramBank.toNat * 0x1000 + (a - 0xD000))
  else if a ≤ 0xFDFF then .outside
  else if a ≤ 0xFE9F then .oam (a - 0xFE00)
  else if a ≤ 0xFEFF then .gap
  else if a ≤ 0xFF7F then .io (a - 0xFF00)
  else if a ≤ 0xFFFE then .hram (a - 0xFF80)
  else if a = 0xFFFF then .ie
  else .outside

/-- The one region that owns address `a` (R76); `outside` from 0x10000 up (R71). -/
def locate (b : Banks) (a : Nat) : Region := locateDirect b (unEcho a)

/-! ### The I/O register decoder (R90 to R120) -/

/-- The lines of one joypad group, low when its buttons are pressed, if its select bit is 0 (R100). -/
def joypLines (select : Bool) (pressed : BitVec 4) : BitVec 4 := if select then 0xF else ~~~pressed

/-- A read of JOYP (R100). -/
def readJoyp (s : State) : Byte :=
  let sel := s.ioRaw 0x00
  let n := joypLines (sel.getLsbD 4) (s.buttons.extractLsb' 0 4) &&& joypLines (sel.getLsbD 5) (s.buttons.extractLsb' 4 4)
  0xC0 ||| (sel &&& 0x30) ||| n.setWidth 8

/-- What a read of IF or IE gives: the bits outside the five sources read as 1 (R86, R106). -/
def readInt (v : BitVec 5) : Byte := 0xE0 ||| v.setWidth 8

/-- A register of the colour mode is plain storage in legacy mode (R90, D55). -/
def cgbRead (s : State) (off : Nat) (v : Byte) : Byte := if s.mode = .cgb then v else s.ioRaw off

/-- `IoRead(off)` of an offset that is no audio register (R91): the read rule of the offset, else the stored byte. -/
def ioPeek (off : Nat) (s : State) : Byte :=
  match off with
  | 0x00 => readJoyp s
  | 0x04 => s.timer.div
  | 0x05 => s.timer.tima
  | 0x06 => s.timer.tma
  | 0x07 => s.timer.readTac
  | 0x0F => readInt s.ints.pending
  | 0x40 => s.video.lcdc.toByte
  | 0x41 => readStat s
  | 0x44 => BitVec.ofNat 8 s.video.line
  | 0x4D => cgbRead s 0x4D (((BitVec.ofBool s.doubleSpeed).setWidth 8 <<< 7) ||| 0x7E ||| (s.ioRaw 0x4D &&& 0x01))
  | 0x4F => cgbRead s 0x4F (0xFE ||| s.banks.vramBank.setWidth 8)
  | 0x55 => cgbRead s 0x55 s.hdma.status
  | 0x68 => cgbRead s 0x68 (s.video.bcps ||| 0x40)
  | 0x69 => cgbRead s 0x69 (s.video.bgPal.read (palIndex s.video.bcps))
  | 0x6A => cgbRead s 0x6A (s.video.ocps ||| 0x40)
  | 0x6B => cgbRead s 0x6B (s.video.objPal.read (palIndex s.video.ocps))
  | 0x70 => cgbRead s 0x70 (0xF8 ||| (s.ioRaw 0x70 &&& 0x07))
  | off => s.ioRaw off

/-- The offsets of the audio collaborator (R112). -/
def isAudio (off : Nat) : Bool := decide (0x10 ≤ off ∧ off ≤ 0x3F)

/-- `IoRead(off)` (R91): an audio register answers a free value (R112). -/
def ioRead (off : Nat) (s : State) : Res Byte :=
  if isAudio off then .ok (Config.audioRead off s.freeDraws) s.drawFree else .ok (ioPeek off s) s

/-- SVBK: the bank a written value selects, bank 0 aliased to bank 1 (R120). -/
def svbkBank (v : Byte) : BitVec 3 := let b := v.extractLsb' 0 3; if b = 0 then 1 else b

/-- A write to a register of the colour mode: plain storage in legacy mode (R90, D55). -/
def cgbWrite (s : State) (off : Nat) (v : Byte) (r : Res Unit) : Res Unit :=
  if s.mode = .cgb then r else .ok () (s.setIoRaw off v)

/-- `IoWrite(off, v)` (R92): the write rule of the offset, else plain storage. -/
def ioWrite (off : Nat) (v : Byte) (s : State) : Res Unit :=
  if isAudio off then .ok () s
  else
    match off with
    | 0x00 => .ok () (s.setIoRaw 0x00 (v &&& 0x30))
    | 0x04 => .ok () (s.setTimer s.timer.writeDiv)
    | 0x05 => .ok () (s.setTimer { s.timer with tima := v })
    | 0x06 => .ok () (s.setTimer { s.timer with tma := v })
    | 0x07 => .ok () (s.setTimer (s.timer.writeTac v))
    | 0x0F => .ok () (s.setIF (v.extractLsb' 0 5))
    | 0x40 => .ok () (writeLcdc v s)
    | 0x41 => .ok () (writeStat v s)
    | 0x44 => .ok () s
    | 0x45 => .ok () (writeLyc v s)
    | 0x46 => .ok () (writeDma v s)
    | 0x4D => cgbWrite s 0x4D v (.ok () (s.setIoRaw 0x4D (v &&& 0x01)))
    | 0x4F => cgbWrite s 0x4F v (.ok () (s.setBanks { s.banks with vramBank := v.extractLsb' 0 1 }))
    | 0x50 => .ok () ((s.setIoRaw 0x50 v).setBanks { s.banks with bootRomEnabled := false })
    | 0x55 => cgbWrite s 0x55 v (writeHdma v s)
    | 0x68 => cgbWrite s 0x68 v (.ok () (s.setVideo { s.video with bcps := v &&& 0xBF }))
    | 0x69 => cgbWrite s 0x69 v (.ok () (writeBcpd v s))
    | 0x6A => cgbWrite s 0x6A v (.ok () (s.setVideo { s.video with ocps := v &&& 0xBF }))
    | 0x6B => cgbWrite s 0x6B v (.ok () (writeOcpd v s))
    | 0x70 => cgbWrite s 0x70 v (.ok () ((s.setIoRaw 0x70 v).setBanks { s.banks with wramBank := svbkBank v }))
    | off => .ok () (s.setIoRaw off v)

/-! ### The access primitives -/

/-- A read that needs a cartridge (R78). -/
def cartRead (a : Nat) (s : State) (r : Res Byte) : Res Byte :=
  if s.cartLoaded then r else raiseFatal (.notAvailable a) s

/-- RAM is mapped at 0xA000 to 0xBFFF: the cartridge has RAM (R6), and the collaborator shows it (R545). -/
def State.cartRamMapped (s : State) : Bool := s.params.cartRamPresent && s.banks.cart.ramOn

/-- A read of the cartridge's RAM window (R78); with no RAM there, a free value (log entry 9). -/
def cartRamRead (off : Nat) (s : State) : Res Byte :=
  if s.cartRamMapped then .ok (s.mem.cartRam.read off) s
  else .ok (Config.absentCartRamRead off s.freeDraws) s.drawFree

/-- `BusRead(a)` (R71). -/
def busRead (a : Nat) (s : State) : Res Byte :=
  match locate s.banks a with
  | .bootRom off => .ok (s.mem.bootRom.read off) s
  | .cartRom0 off => cartRead a s (.ok (s.mem.cartRom0.read off) s)
  | .cartRomX off => cartRead a s (.ok (s.mem.cartRomX.read off) s)
  | .vram off => .ok (s.mem.vram.read off) s
  | .cartRam off => cartRead a s (cartRamRead off s)
  | .wram off => .ok (s.mem.wram.read off) s
  | .oam off => .ok (s.mem.oam.read off) s
  | .gap => .ok s.params.gapReadValue s
  | .io off => ioRead off s
  | .hram off => .ok (s.mem.hram.read off) s
  | .ie => .ok (readInt s.ints.enabled) s
  | .outside => raiseFatal (.outOfRange a) s

/-- A write to a cartridge ROM region (R78): fatal, unless a hook consumes it; the hook of a bank controller moves the
visible windows (R545). -/
def cartRomWrite (a : Nat) (v : Byte) (s : State) : Res Unit :=
  if s.cartLoaded then
    match s.params.cartWrite with
    | .fatal => raiseFatal (.notWritable a) s
    | .consumed => .ok () s
    | .hook =>
      match Config.cartHook s.banks.cart a v with
      | some w => .ok () (s.setBanks { s.banks with cart := w })
      | none => raiseFatal (.notWritable a) s
  else raiseFatal (.notAvailable a) s

/-- A write to the cartridge's RAM window (R78); with no RAM there it changes no CORE state (log entry 9). -/
def cartRamWrite (a off : Nat) (v : Byte) (s : State) : Res Unit :=
  if s.cartLoaded then
    if s.cartRamMapped then .ok () (s.setMem { s.mem with cartRam := s.mem.cartRam.write off v })
    else .ok () s
  else raiseFatal (.notAvailable a) s

/-- `BusWrite(a, v)` (R72). -/
def busWrite (a : Nat) (v : Byte) (s : State) : Res Unit :=
  match locate s.banks a with
  | .bootRom _ => raiseFatal (.notWritable a) s
  | .cartRom0 _ => cartRomWrite a v s
  | .cartRomX _ => cartRomWrite a v s
  | .vram off => .ok () (s.setMem { s.mem with vram := s.mem.vram.write off v })
  | .cartRam off => cartRamWrite a off v s
  | .wram off => .ok () (s.setMem { s.mem with wram := s.mem.wram.write off v })
  | .oam off => .ok () (s.setMem { s.mem with oam := s.mem.oam.write off v })
  | .gap => .ok () s
  | .io off => ioWrite off v s
  | .hram off => .ok () (s.setMem { s.mem with hram := s.mem.hram.write off v })
  | .ie => .ok () (s.setIE (v.extractLsb' 0 5))
  | .outside => raiseFatal (.outOfRange a) s

/-- A byte read at a 16-bit address, the form the CPU uses (R73). -/
def busRead16 (a : Word) (s : State) : Res Byte := busRead a.toNat s

/-- A byte write at a 16-bit address, the form the CPU uses (R73). -/
def busWrite16 (a : Word) (v : Byte) (s : State) : Res Unit := busWrite a.toNat v s

/-- `MemRead(a, 2)`: two byte reads, low byte first (R74). -/
def memReadWord (a : Word) (s : State) : Res Word :=
  (busRead16 a s).bind fun lo s => (busRead16 (a + 1) s).bind fun hi s => .ok (word16 hi lo) s

/-- `MemWrite(a, 2, v)`: two byte writes, low byte first (R75). -/
def memWriteWord (a : Word) (v : Word) (s : State) : Res Unit :=
  (busWrite16 a (lo8 v) s).bind fun _ s => busWrite16 (a + 1) (hi8 v) s

/-- `BusRead(a)` for an integer `a`, the host's call (R71). -/
def hostRead (a : Int) (s : State) : Res Byte :=
  if a < 0 then raiseFatal (.outOfRange a) s else busRead a.toNat s

/-- `BusWrite(a, v)` for an integer `a`, the host's call (R72). -/
def hostWrite (a : Int) (v : Byte) (s : State) : Res Unit :=
  if a < 0 then raiseFatal (.outOfRange a) s else busWrite a.toNat v s

/-- `Imm8()`: the byte at PC, and PC past it (R147). -/
def imm8 (s : State) : Res Byte :=
  (busRead16 s.cpu.pc s).bind fun v s => .ok v (s.setPc (s.cpu.pc + 1))

/-! ### The stack -/

/-- `Push16(v)`: the high byte first, at the higher address (R238). -/
def push16 (v : Word) (s : State) : Res Unit :=
  let s := s.setSp (s.cpu.sp - 1)
  (busWrite16 s.cpu.sp (hi8 v) s).bind fun _ s =>
    let s := s.setSp (s.cpu.sp - 1)
    busWrite16 s.cpu.sp (lo8 v) s

/-- `Pop16()` (R239). -/
def pop16 (s : State) : Res Word :=
  (busRead16 s.cpu.sp s).bind fun lo s =>
    let s := s.setSp (s.cpu.sp + 1)
    (busRead16 s.cpu.sp s).bind fun hi s =>
      .ok (word16 hi lo) (s.setSp (s.cpu.sp + 1))

/-! ### Interrupts -/

/-- The source a dispatch takes: the first in ascending priority order that is pending and enabled (R360, R363). -/
def State.firstDispatchable (s : State) : Option IntSource :=
  [IntSource.vblank, .lcdStatus, .timer, .serial, .joypad].find? fun k => s.dispatchable.getLsbD k.index

/-- Taking the interrupt of source `k` (R360, R361, R364): its IF bit and IME are cleared, PC is pushed, PC takes the
source's vector and a wait state is left. Returns the cycles charged: 6 out of HALTED, else 5 (R362). -/
def takeInterrupt (k : IntSource) (s : State) : Res Nat :=
  let s := (s.setIF (s.ints.pending &&& ~~~k.mask)).setIme false
  (push16 s.cpu.pc s).bind fun _ s =>
    let s := s.setPc (k.vector s.params.vectors)
    match s.cpu.runState with
    | .halted => .ok 6 (s.setRunState .running)
    | .stopped => .ok 5 (s.setRunState .running)
    | .running => .ok 5 s
    | .reset => .ok 5 s

/-- `InterruptDispatch()`: 0 if nothing is dispatched (R360). -/
def interruptDispatch (s : State) : Res Nat :=
  if s.cpu.ime then
    match s.firstDispatchable with
    | some k => takeInterrupt k s
    | none => .ok 0 s
  else .ok 0 s

/-- Returning from an interrupt handler: PC is popped and IME set (R330, R365). -/
def returnFromInterrupt (s : State) : Res Unit :=
  (pop16 s).bind fun v s => .ok () ((s.setPc v).setIme true)

end Sys2Proof.Machine
end

