-- ==== Sys2Proof/Machine/CpuStep.lean ====
section
/-! DEFINITION. The CPU step up to the fetch (`spec/40_cpu_step.md` section 2) and the reset work of the very first step
(`spec/70_reset_and_hazards.md` R521, R522). -/

namespace Sys2Proof.Machine

/-- Applies a list of (offset, value) pairs in order as I/O writes (R66). -/
def applyIoWrites : List (BitVec 7 × Byte) → State → Res Unit
  | [], s => .ok () s
  | (off, v) :: l, s => (ioWrite off.toNat v s).bind fun _ s => applyIoWrites l s

/-- The register file and the Timer's internal counter from the power-up record (R62, R521). -/
def loadPowerUp (p : PowerUp) (s : State) : State :=
  let s := ((((s.setA p.a).setF p.f).setB p.b).setC p.c).setD p.d
  let s := (((s.setE p.e).setH p.h).setL p.l).setSp p.sp
  s.setTimer { s.timer with counter := p.tCounter }

/-- `ResetToRunning()` (R521). -/
def resetToRunning (s : State) : Res Unit :=
  if s.bootLoaded then .ok () (s.setPc 0x0000)
  else
    let p := s.params.powerUp s.mode
    (applyIoWrites p.ioWrites (loadPowerUp p s)).bind fun _ s => .ok () (s.setPc s.params.entryPoint)

/-- The top of a CPU step: the reset work on the very first one, the Timer on every other (R171, R172). -/
def cpuBegin (s : State) : Res Unit :=
  if s.cpu.runState = .reset then (resetToRunning s).bind fun _ s => .ok () (s.setRunState .running)
  else .ok () (timerStep s)

/-- How a CPU step goes on before its fetch: it is over, or it fetches an instruction. -/
inductive Prologue where
  | done (s : State)
  | fetch (s : State)
  deriving DecidableEq, Repr

/-- The wait states, when nothing was dispatched: STOPPED wakes on any pending source of `STOP_WAKE_MASK` and fetches in
the same step (R174); HALTED wakes on a source pending and enabled, and the step ends either way (R175). -/
def waitStates (s : State) : Prologue :=
  match s.cpu.runState with
  | .stopped =>
    if s.ints.pending &&& s.params.stopWakeMask = 0 then .done s else .fetch (s.setRunState .running)
  | .halted => .done (if s.dispatchable = 0 then s else s.setRunState .running)
  | .running => .fetch s
  | .reset => .fetch s

/-- A CPU step with no cycles pending: the dispatch attempt, then the wait states (R176). -/
def afterPending (s : State) : Prologue :=
  match interruptDispatch s with
  | .fatal s => .done s
  | .ok n s => if n > 0 then .done (s.setPending (n - 1)) else waitStates s

/-- `CpuStep()` up to the fetch (R171): pending cycles are consumed one a step, with no look at interrupts (R173). -/
def cpuPrologue (s : State) : Prologue :=
  match cpuBegin s with
  | .fatal s => .done s
  | .ok _ s =>
    if s.cpu.pendingCycles > 0 then .done (s.setPending (s.cpu.pendingCycles - 1)) else afterPending s

end Sys2Proof.Machine
end

