-- ==== Sys2Proof/Syntax.lean ====
section
/-! DEFINITION. The instruction set's syntax: the operand fields (`spec/30_encoding.md` R143 to R155) and ONE inductive
with a constructor for every row of `spec/opcode_table.json`. A constructor's name is the row's mnemonic with the
operands set off by `_` and a memory operand `(x)` written `mx`: `ld_B_mHL` is `LD B,(HL)`. Only the immediates of an
instruction are arguments; register, condition and bit fields are part of the opcode and so of the name. -/

namespace Sys2Proof

/-- The 8-bit operand field `r8[i]` (R143), in field order 0 to 7. `mHL` is the byte in memory at address HL. -/
inductive R8 where
  | b
  | c
  | d
  | e
  | h
  | l
  | mHL
  | a
  deriving DecidableEq, Repr

/-- The pair field `r16[p]` of the 16-bit load and arithmetic instructions (R144). -/
inductive R16 where
  | bc
  | de
  | hl
  | sp
  deriving DecidableEq, Repr

/-- The pair field `r16stk[p]` of PUSH and POP (R145). -/
inductive R16Stk where
  | bc
  | de
  | hl
  | af
  deriving DecidableEq, Repr

/-- The pointer field `r16mem[p]` of the accumulator indirect loads (R146). -/
inductive R16Mem where
  | bc
  | de
  | hlInc
  | hlDec
  deriving DecidableEq, Repr

/-- The condition field `cc` (R152). -/
inductive Cond where
  | nz
  | z
  | nc
  | c
  deriving DecidableEq, Repr

/-- The operation field `alu[y]` (R155). -/
inductive AluOp where
  | add
  | adc
  | sub
  | sbc
  | and
  | xor
  | or
  | cp
  deriving DecidableEq, Repr

/-- The rotate and shift field y of the alternate table, x = 0 (R157). -/
inductive ShiftOp where
  | rlc
  | rrc
  | rl
  | rr
  | sla
  | sra
  | swap
  | srl
  deriving DecidableEq, Repr

/-- One constructor per row of `spec/opcode_table.json`, those with operand bytes first, then the other rows of
the primary table, then the alternate (`CB`) table, each in the table's order. The eleven unknown bytes are the one constructor `unknown`, which carries the byte (R159, R346).
`prefix_CB` is the primary table's row 0xCB: the prefix byte before its second byte is read (R341). -/
inductive Instr where
  -- the primary table (R158), instructions with operand bytes
  | ld_BC_d16 (n : Word)  -- 01 LD BC,d16, R230
  | ld_B_d8 (n : Byte)  -- 06 LD B,d8, R203
  | ld_ma16_SP (a : Word)  -- 08 LD (a16),SP, R231
  | ld_C_d8 (n : Byte)  -- 0E LD C,d8, R203
  | stop (pad : Byte)  -- 10 STOP, R343
  | ld_DE_d16 (n : Word)  -- 11 LD DE,d16, R230
  | ld_D_d8 (n : Byte)  -- 16 LD D,d8, R203
  | jr_e8 (e : Byte)  -- 18 JR e8, R324
  | ld_E_d8 (n : Byte)  -- 1E LD E,d8, R203
  | jr_NZ_e8 (e : Byte)  -- 20 JR NZ,e8, R325
  | ld_HL_d16 (n : Word)  -- 21 LD HL,d16, R230
  | ld_H_d8 (n : Byte)  -- 26 LD H,d8, R203
  | jr_Z_e8 (e : Byte)  -- 28 JR Z,e8, R325
  | ld_L_d8 (n : Byte)  -- 2E LD L,d8, R203
  | jr_NC_e8 (e : Byte)  -- 30 JR NC,e8, R325
  | ld_SP_d16 (n : Word)  -- 31 LD SP,d16, R230
  | ld_mHL_d8 (n : Byte)  -- 36 LD (HL),d8, R204
  | jr_C_e8 (e : Byte)  -- 38 JR C,e8, R325
  | ld_A_d8 (n : Byte)  -- 3E LD A,d8, R203
  | jp_NZ_a16 (a : Word)  -- C2 JP NZ,a16, R322
  | jp_a16 (a : Word)  -- C3 JP a16, R321
  | call_NZ_a16 (a : Word)  -- C4 CALL NZ,a16, R327
  | add_A_d8 (n : Byte)  -- C6 ADD A,d8, R251
  | jp_Z_a16 (a : Word)  -- CA JP Z,a16, R322
  | call_Z_a16 (a : Word)  -- CC CALL Z,a16, R327
  | call_a16 (a : Word)  -- CD CALL a16, R326
  | adc_A_d8 (n : Byte)  -- CE ADC A,d8, R252
  | jp_NC_a16 (a : Word)  -- D2 JP NC,a16, R322
  | unknown (op : Byte)  -- D3 UNKNOWN, R346
  | call_NC_a16 (a : Word)  -- D4 CALL NC,a16, R327
  | sub_d8 (n : Byte)  -- D6 SUB d8, R253
  | jp_C_a16 (a : Word)  -- DA JP C,a16, R322
  | call_C_a16 (a : Word)  -- DC CALL C,a16, R327
  | sbc_A_d8 (n : Byte)  -- DE SBC A,d8, R254
  | ldh_ma8_A (o : Byte)  -- E0 LDH (a8),A, R212
  | and_d8 (n : Byte)  -- E6 AND d8, R255
  | add_SP_e8 (e : Byte)  -- E8 ADD SP,e8, R283
  | ld_ma16_A (a : Word)  -- EA LD (a16),A, R210
  | xor_d8 (n : Byte)  -- EE XOR d8, R256
  | ldh_A_ma8 (o : Byte)  -- F0 LDH A,(a8), R211
  | or_d8 (n : Byte)  -- F6 OR d8, R257
  | ld_HL_SPe8 (e : Byte)  -- F8 LD HL,SP+e8, R233
  | ld_A_ma16 (a : Word)  -- FA LD A,(a16), R209
  | cp_d8 (n : Byte)  -- FE CP d8, R258
  -- the primary table (R158), instructions without
  | nop  -- 00 NOP, R340
  | ld_mBC_A  -- 02 LD (BC),A, R207
  | inc_BC  -- 03 INC BC, R281
  | inc_B  -- 04 INC B, R259
  | dec_B  -- 05 DEC B, R261
  | rlca  -- 07 RLCA, R290
  | add_HL_BC  -- 09 ADD HL,BC, R280
  | ld_A_mBC  -- 0A LD A,(BC), R205
  | dec_BC  -- 0B DEC BC, R282
  | inc_C  -- 0C INC C, R259
  | dec_C  -- 0D DEC C, R261
  | rrca  -- 0F RRCA, R291
  | ld_mDE_A  -- 12 LD (DE),A, R208
  | inc_DE  -- 13 INC DE, R281
  | inc_D  -- 14 INC D, R259
  | dec_D  -- 15 DEC D, R261
  | rla  -- 17 RLA, R292
  | add_HL_DE  -- 19 ADD HL,DE, R280
  | ld_A_mDE  -- 1A LD A,(DE), R206
  | dec_DE  -- 1B DEC DE, R282
  | inc_E  -- 1C INC E, R259
  | dec_E  -- 1D DEC E, R261
  | rra  -- 1F RRA, R293
  | ld_mHLi_A  -- 22 LD (HL+),A, R215
  | inc_HL  -- 23 INC HL, R281
  | inc_H  -- 24 INC H, R259
  | dec_H  -- 25 DEC H, R261
  | daa  -- 27 DAA, R263
  | add_HL_HL  -- 29 ADD HL,HL, R280
  | ld_A_mHLi  -- 2A LD A,(HL+), R217
  | dec_HL  -- 2B DEC HL, R282
  | inc_L  -- 2C INC L, R259
  | dec_L  -- 2D DEC L, R261
  | cpl  -- 2F CPL, R264
  | ld_mHLd_A  -- 32 LD (HL-),A, R216
  | inc_SP  -- 33 INC SP, R281
  | inc_mHL  -- 34 INC (HL), R260
  | dec_mHL  -- 35 DEC (HL), R262
  | scf  -- 37 SCF, R265
  | add_HL_SP  -- 39 ADD HL,SP, R280
  | ld_A_mHLd  -- 3A LD A,(HL-), R218
  | dec_SP  -- 3B DEC SP, R282
  | inc_A  -- 3C INC A, R259
  | dec_A  -- 3D DEC A, R261
  | ccf  -- 3F CCF, R266
  | ld_B_B  -- 40 LD B,B, R200
  | ld_B_C  -- 41 LD B,C, R200
  | ld_B_D  -- 42 LD B,D, R200
  | ld_B_E  -- 43 LD B,E, R200
  | ld_B_H  -- 44 LD B,H, R200
  | ld_B_L  -- 45 LD B,L, R200
  | ld_B_mHL  -- 46 LD B,(HL), R201
  | ld_B_A  -- 47 LD B,A, R200
  | ld_C_B  -- 48 LD C,B, R200
  | ld_C_C  -- 49 LD C,C, R200
  | ld_C_D  -- 4A LD C,D, R200
  | ld_C_E  -- 4B LD C,E, R200
  | ld_C_H  -- 4C LD C,H, R200
  | ld_C_L  -- 4D LD C,L, R200
  | ld_C_mHL  -- 4E LD C,(HL), R201
  | ld_C_A  -- 4F LD C,A, R200
  | ld_D_B  -- 50 LD D,B, R200
  | ld_D_C  -- 51 LD D,C, R200
  | ld_D_D  -- 52 LD D,D, R200
  | ld_D_E  -- 53 LD D,E, R200
  | ld_D_H  -- 54 LD D,H, R200
  | ld_D_L  -- 55 LD D,L, R200
  | ld_D_mHL  -- 56 LD D,(HL), R201
  | ld_D_A  -- 57 LD D,A, R200
  | ld_E_B  -- 58 LD E,B, R200
  | ld_E_C  -- 59 LD E,C, R200
  | ld_E_D  -- 5A LD E,D, R200
  | ld_E_E  -- 5B LD E,E, R200
  | ld_E_H  -- 5C LD E,H, R200
  | ld_E_L  -- 5D LD E,L, R200
  | ld_E_mHL  -- 5E LD E,(HL), R201
  | ld_E_A  -- 5F LD E,A, R200
  | ld_H_B  -- 60 LD H,B, R200
  | ld_H_C  -- 61 LD H,C, R200
  | ld_H_D  -- 62 LD H,D, R200
  | ld_H_E  -- 63 LD H,E, R200
  | ld_H_H  -- 64 LD H,H, R200
  | ld_H_L  -- 65 LD H,L, R200
  | ld_H_mHL  -- 66 LD H,(HL), R201
  | ld_H_A  -- 67 LD H,A, R200
  | ld_L_B  -- 68 LD L,B, R200
  | ld_L_C  -- 69 LD L,C, R200
  | ld_L_D  -- 6A LD L,D, R200
  | ld_L_E  -- 6B LD L,E, R200
  | ld_L_H  -- 6C LD L,H, R200
  | ld_L_L  -- 6D LD L,L, R200
  | ld_L_mHL  -- 6E LD L,(HL), R201
  | ld_L_A  -- 6F LD L,A, R200
  | ld_mHL_B  -- 70 LD (HL),B, R202
  | ld_mHL_C  -- 71 LD (HL),C, R202
  | ld_mHL_D  -- 72 LD (HL),D, R202
  | ld_mHL_E  -- 73 LD (HL),E, R202
  | ld_mHL_H  -- 74 LD (HL),H, R202
  | ld_mHL_L  -- 75 LD (HL),L, R202
  | halt  -- 76 HALT, R342
  | ld_mHL_A  -- 77 LD (HL),A, R202
  | ld_A_B  -- 78 LD A,B, R200
  | ld_A_C  -- 79 LD A,C, R200
  | ld_A_D  -- 7A LD A,D, R200
  | ld_A_E  -- 7B LD A,E, R200
  | ld_A_H  -- 7C LD A,H, R200
  | ld_A_L  -- 7D LD A,L, R200
  | ld_A_mHL  -- 7E LD A,(HL), R201
  | ld_A_A  -- 7F LD A,A, R200
  | add_A_B  -- 80 ADD A,B, R251
  | add_A_C  -- 81 ADD A,C, R251
  | add_A_D  -- 82 ADD A,D, R251
  | add_A_E  -- 83 ADD A,E, R251
  | add_A_H  -- 84 ADD A,H, R251
  | add_A_L  -- 85 ADD A,L, R251
  | add_A_mHL  -- 86 ADD A,(HL), R251
  | add_A_A  -- 87 ADD A,A, R251
  | adc_A_B  -- 88 ADC A,B, R252
  | adc_A_C  -- 89 ADC A,C, R252
  | adc_A_D  -- 8A ADC A,D, R252
  | adc_A_E  -- 8B ADC A,E, R252
  | adc_A_H  -- 8C ADC A,H, R252
  | adc_A_L  -- 8D ADC A,L, R252
  | adc_A_mHL  -- 8E ADC A,(HL), R252
  | adc_A_A  -- 8F ADC A,A, R252
  | sub_B  -- 90 SUB B, R253
  | sub_C  -- 91 SUB C, R253
  | sub_D  -- 92 SUB D, R253
  | sub_E  -- 93 SUB E, R253
  | sub_H  -- 94 SUB H, R253
  | sub_L  -- 95 SUB L, R253
  | sub_mHL  -- 96 SUB (HL), R253
  | sub_A  -- 97 SUB A, R253
  | sbc_A_B  -- 98 SBC A,B, R254
  | sbc_A_C  -- 99 SBC A,C, R254
  | sbc_A_D  -- 9A SBC A,D, R254
  | sbc_A_E  -- 9B SBC A,E, R254
  | sbc_A_H  -- 9C SBC A,H, R254
  | sbc_A_L  -- 9D SBC A,L, R254
  | sbc_A_mHL  -- 9E SBC A,(HL), R254
  | sbc_A_A  -- 9F SBC A,A, R254
  | and_B  -- A0 AND B, R255
  | and_C  -- A1 AND C, R255
  | and_D  -- A2 AND D, R255
  | and_E  -- A3 AND E, R255
  | and_H  -- A4 AND H, R255
  | and_L  -- A5 AND L, R255
  | and_mHL  -- A6 AND (HL), R255
  | and_A  -- A7 AND A, R255
  | xor_B  -- A8 XOR B, R256
  | xor_C  -- A9 XOR C, R256
  | xor_D  -- AA XOR D, R256
  | xor_E  -- AB XOR E, R256
  | xor_H  -- AC XOR H, R256
  | xor_L  -- AD XOR L, R256
  | xor_mHL  -- AE XOR (HL), R256
  | xor_A  -- AF XOR A, R256
  | or_B  -- B0 OR B, R257
  | or_C  -- B1 OR C, R257
  | or_D  -- B2 OR D, R257
  | or_E  -- B3 OR E, R257
  | or_H  -- B4 OR H, R257
  | or_L  -- B5 OR L, R257
  | or_mHL  -- B6 OR (HL), R257
  | or_A  -- B7 OR A, R257
  | cp_B  -- B8 CP B, R258
  | cp_C  -- B9 CP C, R258
  | cp_D  -- BA CP D, R258
  | cp_E  -- BB CP E, R258
  | cp_H  -- BC CP H, R258
  | cp_L  -- BD CP L, R258
  | cp_mHL  -- BE CP (HL), R258
  | cp_A  -- BF CP A, R258
  | ret_NZ  -- C0 RET NZ, R329
  | pop_BC  -- C1 POP BC, R235
  | push_BC  -- C5 PUSH BC, R234
  | rst_00  -- C7 RST 0x00, R331
  | ret_Z  -- C8 RET Z, R329
  | ret  -- C9 RET, R328
  | prefix_CB  -- CB PREFIX CB, R341
  | rst_08  -- CF RST 0x08, R331
  | ret_NC  -- D0 RET NC, R329
  | pop_DE  -- D1 POP DE, R235
  | push_DE  -- D5 PUSH DE, R234
  | rst_10  -- D7 RST 0x10, R331
  | ret_C  -- D8 RET C, R329
  | reti  -- D9 RETI, R330
  | rst_18  -- DF RST 0x18, R331
  | pop_HL  -- E1 POP HL, R235
  | ld_mC_A  -- E2 LD (C),A, R214
  | push_HL  -- E5 PUSH HL, R234
  | rst_20  -- E7 RST 0x20, R331
  | jp_HL  -- E9 JP HL, R323
  | rst_28  -- EF RST 0x28, R331
  | pop_AF  -- F1 POP AF, R236
  | ld_A_mC  -- F2 LD A,(C), R213
  | di  -- F3 DI, R344
  | push_AF  -- F5 PUSH AF, R234
  | rst_30  -- F7 RST 0x30, R331
  | ld_SP_HL  -- F9 LD SP,HL, R232
  | ei  -- FB EI, R345
  | rst_38  -- FF RST 0x38, R331
  -- the alternate table (R157)
  | rlc_B  -- CB00 RLC B, R295
  | rlc_C  -- CB01 RLC C, R295
  | rlc_D  -- CB02 RLC D, R295
  | rlc_E  -- CB03 RLC E, R295
  | rlc_H  -- CB04 RLC H, R295
  | rlc_L  -- CB05 RLC L, R295
  | rlc_mHL  -- CB06 RLC (HL), R295
  | rlc_A  -- CB07 RLC A, R295
  | rrc_B  -- CB08 RRC B, R296
  | rrc_C  -- CB09 RRC C, R296
  | rrc_D  -- CB0A RRC D, R296
  | rrc_E  -- CB0B RRC E, R296
  | rrc_H  -- CB0C RRC H, R296
  | rrc_L  -- CB0D RRC L, R296
  | rrc_mHL  -- CB0E RRC (HL), R296
  | rrc_A  -- CB0F RRC A, R296
  | rl_B  -- CB10 RL B, R297
  | rl_C  -- CB11 RL C, R297
  | rl_D  -- CB12 RL D, R297
  | rl_E  -- CB13 RL E, R297
  | rl_H  -- CB14 RL H, R297
  | rl_L  -- CB15 RL L, R297
  | rl_mHL  -- CB16 RL (HL), R297
  | rl_A  -- CB17 RL A, R297
  | rr_B  -- CB18 RR B, R298
  | rr_C  -- CB19 RR C, R298
  | rr_D  -- CB1A RR D, R298
  | rr_E  -- CB1B RR E, R298
  | rr_H  -- CB1C RR H, R298
  | rr_L  -- CB1D RR L, R298
  | rr_mHL  -- CB1E RR (HL), R298
  | rr_A  -- CB1F RR A, R298
  | sla_B  -- CB20 SLA B, R299
  | sla_C  -- CB21 SLA C, R299
  | sla_D  -- CB22 SLA D, R299
  | sla_E  -- CB23 SLA E, R299
  | sla_H  -- CB24 SLA H, R299
  | sla_L  -- CB25 SLA L, R299
  | sla_mHL  -- CB26 SLA (HL), R299
  | sla_A  -- CB27 SLA A, R299
  | sra_B  -- CB28 SRA B, R300
  | sra_C  -- CB29 SRA C, R300
  | sra_D  -- CB2A SRA D, R300
  | sra_E  -- CB2B SRA E, R300
  | sra_H  -- CB2C SRA H, R300
  | sra_L  -- CB2D SRA L, R300
  | sra_mHL  -- CB2E SRA (HL), R300
  | sra_A  -- CB2F SRA A, R300
  | swap_B  -- CB30 SWAP B, R301
  | swap_C  -- CB31 SWAP C, R301
  | swap_D  -- CB32 SWAP D, R301
  | swap_E  -- CB33 SWAP E, R301
  | swap_H  -- CB34 SWAP H, R301
  | swap_L  -- CB35 SWAP L, R301
  | swap_mHL  -- CB36 SWAP (HL), R301
  | swap_A  -- CB37 SWAP A, R301
  | srl_B  -- CB38 SRL B, R302
  | srl_C  -- CB39 SRL C, R302
  | srl_D  -- CB3A SRL D, R302
  | srl_E  -- CB3B SRL E, R302
  | srl_H  -- CB3C SRL H, R302
  | srl_L  -- CB3D SRL L, R302
  | srl_mHL  -- CB3E SRL (HL), R302
  | srl_A  -- CB3F SRL A, R302
  | bit_0_B  -- CB40 BIT 0,B, R303
  | bit_0_C  -- CB41 BIT 0,C, R303
  | bit_0_D  -- CB42 BIT 0,D, R303
  | bit_0_E  -- CB43 BIT 0,E, R303
  | bit_0_H  -- CB44 BIT 0,H, R303
  | bit_0_L  -- CB45 BIT 0,L, R303
  | bit_0_mHL  -- CB46 BIT 0,(HL), R303
  | bit_0_A  -- CB47 BIT 0,A, R303
  | bit_1_B  -- CB48 BIT 1,B, R303
  | bit_1_C  -- CB49 BIT 1,C, R303
  | bit_1_D  -- CB4A BIT 1,D, R303
  | bit_1_E  -- CB4B BIT 1,E, R303
  | bit_1_H  -- CB4C BIT 1,H, R303
  | bit_1_L  -- CB4D BIT 1,L, R303
  | bit_1_mHL  -- CB4E BIT 1,(HL), R303
  | bit_1_A  -- CB4F BIT 1,A, R303
  | bit_2_B  -- CB50 BIT 2,B, R303
  | bit_2_C  -- CB51 BIT 2,C, R303
  | bit_2_D  -- CB52 BIT 2,D, R303
  | bit_2_E  -- CB53 BIT 2,E, R303
  | bit_2_H  -- CB54 BIT 2,H, R303
  | bit_2_L  -- CB55 BIT 2,L, R303
  | bit_2_mHL  -- CB56 BIT 2,(HL), R303
  | bit_2_A  -- CB57 BIT 2,A, R303
  | bit_3_B  -- CB58 BIT 3,B, R303
  | bit_3_C  -- CB59 BIT 3,C, R303
  | bit_3_D  -- CB5A BIT 3,D, R303
  | bit_3_E  -- CB5B BIT 3,E, R303
  | bit_3_H  -- CB5C BIT 3,H, R303
  | bit_3_L  -- CB5D BIT 3,L, R303
  | bit_3_mHL  -- CB5E BIT 3,(HL), R303
  | bit_3_A  -- CB5F BIT 3,A, R303
  | bit_4_B  -- CB60 BIT 4,B, R303
  | bit_4_C  -- CB61 BIT 4,C, R303
  | bit_4_D  -- CB62 BIT 4,D, R303
  | bit_4_E  -- CB63 BIT 4,E, R303
  | bit_4_H  -- CB64 BIT 4,H, R303
  | bit_4_L  -- CB65 BIT 4,L, R303
  | bit_4_mHL  -- CB66 BIT 4,(HL), R303
  | bit_4_A  -- CB67 BIT 4,A, R303
  | bit_5_B  -- CB68 BIT 5,B, R303
  | bit_5_C  -- CB69 BIT 5,C, R303
  | bit_5_D  -- CB6A BIT 5,D, R303
  | bit_5_E  -- CB6B BIT 5,E, R303
  | bit_5_H  -- CB6C BIT 5,H, R303
  | bit_5_L  -- CB6D BIT 5,L, R303
  | bit_5_mHL  -- CB6E BIT 5,(HL), R303
  | bit_5_A  -- CB6F BIT 5,A, R303
  | bit_6_B  -- CB70 BIT 6,B, R303
  | bit_6_C  -- CB71 BIT 6,C, R303
  | bit_6_D  -- CB72 BIT 6,D, R303
  | bit_6_E  -- CB73 BIT 6,E, R303
  | bit_6_H  -- CB74 BIT 6,H, R303
  | bit_6_L  -- CB75 BIT 6,L, R303
  | bit_6_mHL  -- CB76 BIT 6,(HL), R303
  | bit_6_A  -- CB77 BIT 6,A, R303
  | bit_7_B  -- CB78 BIT 7,B, R303
  | bit_7_C  -- CB79 BIT 7,C, R303
  | bit_7_D  -- CB7A BIT 7,D, R303
  | bit_7_E  -- CB7B BIT 7,E, R303
  | bit_7_H  -- CB7C BIT 7,H, R303
  | bit_7_L  -- CB7D BIT 7,L, R303
  | bit_7_mHL  -- CB7E BIT 7,(HL), R303
  | bit_7_A  -- CB7F BIT 7,A, R303
  | res_0_B  -- CB80 RES 0,B, R304
  | res_0_C  -- CB81 RES 0,C, R304
  | res_0_D  -- CB82 RES 0,D, R304
  | res_0_E  -- CB83 RES 0,E, R304
  | res_0_H  -- CB84 RES 0,H, R304
  | res_0_L  -- CB85 RES 0,L, R304
  | res_0_mHL  -- CB86 RES 0,(HL), R304
  | res_0_A  -- CB87 RES 0,A, R304
  | res_1_B  -- CB88 RES 1,B, R304
  | res_1_C  -- CB89 RES 1,C, R304
  | res_1_D  -- CB8A RES 1,D, R304
  | res_1_E  -- CB8B RES 1,E, R304
  | res_1_H  -- CB8C RES 1,H, R304
  | res_1_L  -- CB8D RES 1,L, R304
  | res_1_mHL  -- CB8E RES 1,(HL), R304
  | res_1_A  -- CB8F RES 1,A, R304
  | res_2_B  -- CB90 RES 2,B, R304
  | res_2_C  -- CB91 RES 2,C, R304
  | res_2_D  -- CB92 RES 2,D, R304
  | res_2_E  -- CB93 RES 2,E, R304
  | res_2_H  -- CB94 RES 2,H, R304
  | res_2_L  -- CB95 RES 2,L, R304
  | res_2_mHL  -- CB96 RES 2,(HL), R304
  | res_2_A  -- CB97 RES 2,A, R304
  | res_3_B  -- CB98 RES 3,B, R304
  | res_3_C  -- CB99 RES 3,C, R304
  | res_3_D  -- CB9A RES 3,D, R304
  | res_3_E  -- CB9B RES 3,E, R304
  | res_3_H  -- CB9C RES 3,H, R304
  | res_3_L  -- CB9D RES 3,L, R304
  | res_3_mHL  -- CB9E RES 3,(HL), R304
  | res_3_A  -- CB9F RES 3,A, R304
  | res_4_B  -- CBA0 RES 4,B, R304
  | res_4_C  -- CBA1 RES 4,C, R304
  | res_4_D  -- CBA2 RES 4,D, R304
  | res_4_E  -- CBA3 RES 4,E, R304
  | res_4_H  -- CBA4 RES 4,H, R304
  | res_4_L  -- CBA5 RES 4,L, R304
  | res_4_mHL  -- CBA6 RES 4,(HL), R304
  | res_4_A  -- CBA7 RES 4,A, R304
  | res_5_B  -- CBA8 RES 5,B, R304
  | res_5_C  -- CBA9 RES 5,C, R304
  | res_5_D  -- CBAA RES 5,D, R304
  | res_5_E  -- CBAB RES 5,E, R304
  | res_5_H  -- CBAC RES 5,H, R304
  | res_5_L  -- CBAD RES 5,L, R304
  | res_5_mHL  -- CBAE RES 5,(HL), R304
  | res_5_A  -- CBAF RES 5,A, R304
  | res_6_B  -- CBB0 RES 6,B, R304
  | res_6_C  -- CBB1 RES 6,C, R304
  | res_6_D  -- CBB2 RES 6,D, R304
  | res_6_E  -- CBB3 RES 6,E, R304
  | res_6_H  -- CBB4 RES 6,H, R304
  | res_6_L  -- CBB5 RES 6,L, R304
  | res_6_mHL  -- CBB6 RES 6,(HL), R304
  | res_6_A  -- CBB7 RES 6,A, R304
  | res_7_B  -- CBB8 RES 7,B, R304
  | res_7_C  -- CBB9 RES 7,C, R304
  | res_7_D  -- CBBA RES 7,D, R304
  | res_7_E  -- CBBB RES 7,E, R304
  | res_7_H  -- CBBC RES 7,H, R304
  | res_7_L  -- CBBD RES 7,L, R304
  | res_7_mHL  -- CBBE RES 7,(HL), R304
  | res_7_A  -- CBBF RES 7,A, R304
  | set_0_B  -- CBC0 SET 0,B, R305
  | set_0_C  -- CBC1 SET 0,C, R305
  | set_0_D  -- CBC2 SET 0,D, R305
  | set_0_E  -- CBC3 SET 0,E, R305
  | set_0_H  -- CBC4 SET 0,H, R305
  | set_0_L  -- CBC5 SET 0,L, R305
  | set_0_mHL  -- CBC6 SET 0,(HL), R305
  | set_0_A  -- CBC7 SET 0,A, R305
  | set_1_B  -- CBC8 SET 1,B, R305
  | set_1_C  -- CBC9 SET 1,C, R305
  | set_1_D  -- CBCA SET 1,D, R305
  | set_1_E  -- CBCB SET 1,E, R305
  | set_1_H  -- CBCC SET 1,H, R305
  | set_1_L  -- CBCD SET 1,L, R305
  | set_1_mHL  -- CBCE SET 1,(HL), R305
  | set_1_A  -- CBCF SET 1,A, R305
  | set_2_B  -- CBD0 SET 2,B, R305
  | set_2_C  -- CBD1 SET 2,C, R305
  | set_2_D  -- CBD2 SET 2,D, R305
  | set_2_E  -- CBD3 SET 2,E, R305
  | set_2_H  -- CBD4 SET 2,H, R305
  | set_2_L  -- CBD5 SET 2,L, R305
  | set_2_mHL  -- CBD6 SET 2,(HL), R305
  | set_2_A  -- CBD7 SET 2,A, R305
  | set_3_B  -- CBD8 SET 3,B, R305
  | set_3_C  -- CBD9 SET 3,C, R305
  | set_3_D  -- CBDA SET 3,D, R305
  | set_3_E  -- CBDB SET 3,E, R305
  | set_3_H  -- CBDC SET 3,H, R305
  | set_3_L  -- CBDD SET 3,L, R305
  | set_3_mHL  -- CBDE SET 3,(HL), R305
  | set_3_A  -- CBDF SET 3,A, R305
  | set_4_B  -- CBE0 SET 4,B, R305
  | set_4_C  -- CBE1 SET 4,C, R305
  | set_4_D  -- CBE2 SET 4,D, R305
  | set_4_E  -- CBE3 SET 4,E, R305
  | set_4_H  -- CBE4 SET 4,H, R305
  | set_4_L  -- CBE5 SET 4,L, R305
  | set_4_mHL  -- CBE6 SET 4,(HL), R305
  | set_4_A  -- CBE7 SET 4,A, R305
  | set_5_B  -- CBE8 SET 5,B, R305
  | set_5_C  -- CBE9 SET 5,C, R305
  | set_5_D  -- CBEA SET 5,D, R305
  | set_5_E  -- CBEB SET 5,E, R305
  | set_5_H  -- CBEC SET 5,H, R305
  | set_5_L  -- CBED SET 5,L, R305
  | set_5_mHL  -- CBEE SET 5,(HL), R305
  | set_5_A  -- CBEF SET 5,A, R305
  | set_6_B  -- CBF0 SET 6,B, R305
  | set_6_C  -- CBF1 SET 6,C, R305
  | set_6_D  -- CBF2 SET 6,D, R305
  | set_6_E  -- CBF3 SET 6,E, R305
  | set_6_H  -- CBF4 SET 6,H, R305
  | set_6_L  -- CBF5 SET 6,L, R305
  | set_6_mHL  -- CBF6 SET 6,(HL), R305
  | set_6_A  -- CBF7 SET 6,A, R305
  | set_7_B  -- CBF8 SET 7,B, R305
  | set_7_C  -- CBF9 SET 7,C, R305
  | set_7_D  -- CBFA SET 7,D, R305
  | set_7_E  -- CBFB SET 7,E, R305
  | set_7_H  -- CBFC SET 7,H, R305
  | set_7_L  -- CBFD SET 7,L, R305
  | set_7_mHL  -- CBFE SET 7,(HL), R305
  | set_7_A  -- CBFF SET 7,A, R305
  deriving DecidableEq, Repr

end Sys2Proof
end

