-- ==== Sys2Proof/Machine/Flags.lean ====
section
/-! DEFINITION. The flag register and every flag computation (`spec/43_alu8.md`, `44_alu16.md`, `45_rotate_shift_bit.md`).
Sums and differences are taken exactly, on natural numbers, and narrowed at the end; the flags are comparisons of the exact
values (R250). -/

namespace Sys2Proof.Machine

/-! ### The flag bits (R24) -/

/-- F from the four flags: `F = Z N H C 0000` (R24, R25). -/
def packFlags (z n h c : Bool) : Byte :=
  BitVec.ofBool z ++ BitVec.ofBool n ++ BitVec.ofBool h ++ BitVec.ofBool c ++ (0 : BitVec 4)

/-- `flag.Z = F[7]`. -/
def State.flagZ (s : State) : Bool := s.cpu.f.getLsbD 7

/-- `flag.N = F[6]`. -/
def State.flagN (s : State) : Bool := s.cpu.f.getLsbD 6

/-- `flag.H = F[5]`. -/
def State.flagH (s : State) : Bool := s.cpu.f.getLsbD 5

/-- `flag.C = F[4]`. -/
def State.flagC (s : State) : Bool := s.cpu.f.getLsbD 4

/-- Writes all four flags. -/
def State.setFlags (s : State) (z n h c : Bool) : State := s.setF (packFlags z n h c)

/-! ### The accumulator operations (R251 to R258) -/

/-- A result byte with the four flags. -/
structure AluResult where
  res : Byte
  z : Bool
  n : Bool
  h : Bool
  c : Bool
  deriving DecidableEq, Repr

/-- The low four bits, as a number. -/
def lowNibble (v : Byte) : Nat := v.toNat % 0x10

/-- An addition with carry in (R251, R252): H is the carry out of bit 3, C the carry out of bit 7. -/
def addBytes (a x : Byte) (cin : Bool) : AluResult :=
  let s := a.toNat + x.toNat + bitNat cin
  let r := BitVec.ofNat 8 s
  { res := r, z := r == 0, n := false, h := decide (lowNibble a + lowNibble x + bitNat cin > 0x0F)
    c := decide (s > 0xFF) }

/-- A subtraction with borrow in (R253, R254): H is the borrow into bit 4, C the borrow out of bit 7. -/
def subBytes (a x : Byte) (cin : Bool) : AluResult :=
  let r := BitVec.ofInt 8 ((a.toNat : Int) - x.toNat - bitNat cin)
  { res := r, z := r == 0, n := true, h := decide (lowNibble a < lowNibble x + bitNat cin)
    c := decide (a.toNat < x.toNat + bitNat cin) }

/-- A bitwise operation: Z from the result, C = 0, and H as given (R255 to R257). -/
def logicBytes (r : Byte) (h : Bool) : AluResult := { res := r, z := r == 0, n := false, h := h, c := false }

/-- `alu[y] A,x` as a function of A, the second operand and the carry flag. For CP the result is the one that is
discarded (R258). -/
def aluResult (op : AluOp) (a x : Byte) (cin : Bool) : AluResult :=
  match op with
  | .add => addBytes a x false
  | .adc => addBytes a x cin
  | .sub => subBytes a x false
  | .sbc => subBytes a x cin
  | .and => logicBytes (a &&& x) true
  | .xor => logicBytes (a ^^^ x) false
  | .or => logicBytes (a ||| x) false
  | .cp => subBytes a x false

/-! ### Increment, decrement, decimal adjust -/

/-- INC: the result, Z, N = 0 and H; C is kept (R259, R260). -/
def incResult (v : Byte) (c : Bool) : AluResult :=
  let r := v + 1
  { res := r, z := r == 0, n := false, h := lowNibble v == 0x0F, c := c }

/-- DEC: the result, Z, N = 1 and H; C is kept (R261, R262). -/
def decResult (v : Byte) (c : Bool) : AluResult :=
  let r := v - 1
  { res := r, z := r == 0, n := true, h := lowNibble v == 0x00, c := c }

/-- DAA (R263). Both tests after an addition use the value of A before the adjustment. -/
def daaResult (a : Byte) (n h c : Bool) : AluResult :=
  let low := if n then h else h || decide (lowNibble a > 0x09)
  let high := if n then c else c || decide (a.toNat > 0x99)
  let adj : Byte := (if low then 0x06 else 0x00) ||| (if high then 0x60 else 0x00)
  let r := if n then a - adj else a + adj
  { res := r, z := r == 0, n := n, h := false, c := high }

/-! ### Rotates and shifts (R295 to R302) -/

/-- The result and the bit that goes to C, for the operand `v` and the carry flag `cin`. -/
def shiftResult (op : ShiftOp) (v : Byte) (cin : Bool) : Byte × Bool :=
  let bit7 := v.getLsbD 7
  let bit0 := v.getLsbD 0
  match op with
  | .rlc => (v.extractLsb' 0 7 ++ BitVec.ofBool bit7, bit7)
  | .rrc => (BitVec.ofBool bit0 ++ v.extractLsb' 1 7, bit0)
  | .rl => (v.extractLsb' 0 7 ++ BitVec.ofBool cin, bit7)
  | .rr => (BitVec.ofBool cin ++ v.extractLsb' 1 7, bit0)
  | .sla => (v.extractLsb' 0 7 ++ BitVec.ofBool false, bit7)
  | .sra => (BitVec.ofBool bit7 ++ v.extractLsb' 1 7, bit0)
  | .swap => (v.extractLsb' 0 4 ++ v.extractLsb' 4 4, false)
  | .srl => (BitVec.ofBool false ++ v.extractLsb' 1 7, bit0)

/-! ### Sixteen-bit sums -/

/-- `ADD HL,rr`: the sum, H the carry out of bit 11 and C the carry out of bit 15 (R280). -/
def addWords (x y : Word) : Word × Bool × Bool :=
  (x + y, decide (x.toNat % 0x1000 + y.toNat % 0x1000 > 0x0FFF), decide (x.toNat + y.toNat > 0xFFFF))

/-- `SP + e8`: the sum with the signed displacement; H and C are those of the unsigned 8-bit add of the displacement byte
to the low byte of SP, also for a negative displacement (R233, R283). -/
def addSigned (sp : Word) (b : Byte) : Word × Bool × Bool :=
  (sp + sext8 b, decide (sp.toNat % 0x10 + lowNibble b > 0x0F), decide (sp.toNat % 0x100 + b.toNat > 0xFF))

end Sys2Proof.Machine
end

