-- ==== Sys2Proof/Machine/Operands.lean ====
section
/-! DEFINITION. Every operand form (`spec/30_encoding.md` R143 to R152) and the shared operations the meanings are written
over. In a meaning PC is already past the instruction's bytes (R23). -/

namespace Sys2Proof.Machine

/-! ### The 8-bit operands `r8[i]` (R143) -/

/-- The register an 8-bit operand field names; for `(HL)`, which names none, A stands in and no meaning asks. -/
def State.reg (s : State) : R8 → Byte
  | .b => s.cpu.b
  | .c => s.cpu.c
  | .d => s.cpu.d
  | .e => s.cpu.e
  | .h => s.cpu.h
  | .l => s.cpu.l
  | .mHL => s.cpu.a
  | .a => s.cpu.a

/-- Writes the register an 8-bit operand field names; for `(HL)`, which names none, nothing. -/
def State.setReg (s : State) (r : R8) (v : Byte) : State :=
  match r with
  | .b => s.setB v
  | .c => s.setC v
  | .d => s.setD v
  | .e => s.setE v
  | .h => s.setH v
  | .l => s.setL v
  | .mHL => s
  | .a => s.setA v

/-- Reading `r8[i]`: a register, or `BusRead(HL)` (R143). -/
def readR8 (r : R8) (s : State) : Res Byte :=
  match r with
  | .mHL => busRead16 s.hl s
  | r => .ok (s.reg r) s

/-- Writing `r8[i]`: a register, or `BusWrite(HL, v)` (R143). -/
def writeR8 (r : R8) (v : Byte) (s : State) : Res Unit :=
  match r with
  | .mHL => busWrite16 s.hl v s
  | r => .ok () (s.setReg r v)

/-! ### The 16-bit operands -/

/-- Reading `r16[p]` (R144). -/
def State.pair (s : State) : R16 → Word
  | .bc => s.bc
  | .de => s.de
  | .hl => s.hl
  | .sp => s.cpu.sp

/-- Writing `r16[p]` (R144). -/
def State.setPair (s : State) (p : R16) (v : Word) : State :=
  match p with
  | .bc => s.setBc v
  | .de => s.setDe v
  | .hl => s.setHl v
  | .sp => s.setSp v

/-- Reading `r16stk[p]` (R145). -/
def State.stkPair (s : State) : R16Stk → Word
  | .bc => s.bc
  | .de => s.de
  | .hl => s.hl
  | .af => s.af

/-- Writing `r16stk[p]` (R145). -/
def State.setStkPair (s : State) (p : R16Stk) (v : Word) : State :=
  match p with
  | .bc => s.setBc v
  | .de => s.setDe v
  | .hl => s.setHl v
  | .af => s.setAf v

/-- The address `r16mem[p]` names (R146). -/
def State.memPtr (s : State) : R16Mem → Word
  | .bc => s.bc
  | .de => s.de
  | .hlInc => s.hl
  | .hlDec => s.hl

/-- The step of HL after the access through `r16mem[p]` (R146). -/
def State.stepPtr (s : State) : R16Mem → State
  | .bc => s
  | .de => s
  | .hlInc => s.setHl (s.hl + 1)
  | .hlDec => s.setHl (s.hl - 1)

/-- The effective address `0xFF00 | o` (R151). -/
def highPage (o : Byte) : Word := word16 0xFF o

/-- `cond(cc)` (R320). -/
def State.cond (s : State) : Cond → Bool
  | .nz => !s.flagZ
  | .z => s.flagZ
  | .nc => !s.flagC
  | .c => s.flagC

/-! ### Ending an instruction -/

/-- The instruction has run and its cost is charged: `pending_cycles <- cost − 1` (R181). After a fatal error the rest of
the step, the charge too, is abandoned (R350). -/
def finish (cost : Nat) (r : Res Unit) : Out :=
  match r with
  | .ok _ s => .next (s.setPending (cost - 1))
  | .fatal s => .next s

/-- As `finish`, for an instruction that returns its own cost (R181). -/
def finishWith (r : Res Nat) : Out :=
  match r with
  | .ok cost s => .next (s.setPending (cost - 1))
  | .fatal s => .next s

/-! ### 8-bit loads -/

/-- `r8[y] <- r8[z]` (R200, R201, R202). -/
def ld (y z : R8) (s : State) : Res Unit := (readR8 z s).bind fun v s => writeR8 y v s

/-- `r8[y] <- d8` (R203, R204). -/
def ldImm (y : R8) (n : Byte) (s : State) : Res Unit := writeR8 y n s

/-- `A <- BusRead(a)` (R205, R206, R209, R211, R213). -/
def loadA (a : Word) (s : State) : Res Unit := (busRead16 a s).bind fun v s => .ok () (s.setA v)

/-- `BusWrite(a, A)` (R207, R208, R210, R212, R214). -/
def storeA (a : Word) (s : State) : Res Unit := busWrite16 a s.cpu.a s

/-- `A <- BusRead(r16mem[p])`, then the pointer's step (R205, R206, R217, R218). -/
def loadAPtr (p : R16Mem) (s : State) : Res Unit := (loadA (s.memPtr p) s).bind fun _ s => .ok () (s.stepPtr p)

/-- `BusWrite(r16mem[p], A)`, then the pointer's step (R207, R208, R215, R216). -/
def storeAPtr (p : R16Mem) (s : State) : Res Unit := (storeA (s.memPtr p) s).bind fun _ s => .ok () (s.stepPtr p)

/-! ### 8-bit arithmetic and logic -/

/-- `alu[y] A,x` for the operand value `x`: A (but for CP) and the four flags (R251 to R258). -/
def State.alu (s : State) (op : AluOp) (x : Byte) : State :=
  let r := aluResult op s.cpu.a x s.flagC
  let s := if op = .cp then s else s.setA r.res
  s.setFlags r.z r.n r.h r.c

/-- The register and memory forms `alu[y] A,r8[z]` (R267). -/
def aluR8 (op : AluOp) (z : R8) (s : State) : Res Unit := (readR8 z s).bind fun x s => .ok () (s.alu op x)

/-- The immediate form `alu[y] A,d8` (R267). -/
def aluImm (op : AluOp) (n : Byte) (s : State) : Res Unit := .ok () (s.alu op n)

/-- INC or DEC of `r8[y]`: read, H from the operand, write, then Z and N, C kept (R259 to R262). A write that raises a fatal
error comes after H (R350). -/
def stepR8 (f : Byte → Bool → AluResult) (y : R8) (s : State) : Res Unit :=
  (readR8 y s).bind fun v s =>
    let r := f v s.flagC
    let s := s.setFlags s.flagZ s.flagN r.h s.flagC
    (writeR8 y r.res s).bind fun _ s => .ok () (s.setFlags r.z r.n r.h r.c)

/-! ### The alternate table (R294) -/

/-- A rotate or shift of `r8[z]` (R294, x = 0). -/
def shiftR8 (op : ShiftOp) (z : R8) (s : State) : Res Unit :=
  (readR8 z s).bind fun v s =>
    let r := shiftResult op v s.flagC
    (writeR8 z r.1 s).bind fun _ s => .ok () (s.setFlags (r.1 == 0) false false r.2)

/-- `BIT b,r8[z]` (R303): nothing is written back, C is kept. -/
def bitR8 (b : Nat) (z : R8) (s : State) : Res Unit :=
  (readR8 z s).bind fun v s => .ok () (s.setFlags (!v.getLsbD b) false true s.flagC)

/-- `RES b,r8[z]` (R304): written back even when unchanged, no flags. -/
def resR8 (b : Nat) (z : R8) (s : State) : Res Unit :=
  (readR8 z s).bind fun v s => writeR8 z (clearBit v b) s

/-- `SET b,r8[z]` (R305): written back even when unchanged, no flags. -/
def setR8 (b : Nat) (z : R8) (s : State) : Res Unit :=
  (readR8 z s).bind fun v s => writeR8 z (setBit v b) s

/-- A rotate of A in the primary table: as its prefixed namesake, but Z is always cleared (R290 to R293). -/
def rotateA (op : ShiftOp) (s : State) : State :=
  let r := shiftResult op s.cpu.a s.flagC
  (s.setA r.1).setFlags false false false r.2

/-! ### 16-bit arithmetic -/

/-- `ADD HL,rr`: Z is kept (R280). -/
def addHl (p : R16) (s : State) : State :=
  let r := addWords s.hl (s.pair p)
  (s.setHl r.1).setFlags s.flagZ false r.2.1 r.2.2

/-! ### Control flow -/

/-- `PC <- (PC + sext_8(e)) & 0xFFFF`, PC being past the operand byte (R324). -/
def jumpRelative (e : Byte) (s : State) : State := s.setPc (s.cpu.pc + sext8 e)

/-- `Push16(PC); PC <- a` (R326, R331). -/
def callTo (a : Word) (s : State) : Res Unit := (push16 s.cpu.pc s).bind fun _ s => .ok () (s.setPc a)

/-- `PC <- Pop16()` (R328). -/
def ret (s : State) : Res Unit := (pop16 s).bind fun v s => .ok () (s.setPc v)

/-- A conditional instruction: `taken` runs, at its cost, when the condition holds; else nothing happens, at the other
cost (R320). -/
def whenCond (cc : Cond) (costTaken costNot : Nat) (taken : State → Res Unit) (s : State) : Res Nat :=
  if s.cond cc then (taken s).bind fun _ s => .ok costTaken s else .ok costNot s

end Sys2Proof.Machine
end

