-- ==== Sys2Proof/Machine/Alu16.lean ====
section
/-! DEFINITION. 16-bit arithmetic (`spec/44_alu16.md`). -/

namespace Sys2Proof.Machine

/-- `INC BC` (R281). -/
def execInc_BC (s : State) : Out := finish 2 (.ok () (s.setPair .bc (s.pair .bc + 1)))

/-- `ADD HL,BC` (R280). -/
def execAdd_HL_BC (s : State) : Out := finish 2 (.ok () (addHl .bc s))

/-- `DEC BC` (R282). -/
def execDec_BC (s : State) : Out := finish 2 (.ok () (s.setPair .bc (s.pair .bc - 1)))

/-- `INC DE` (R281). -/
def execInc_DE (s : State) : Out := finish 2 (.ok () (s.setPair .de (s.pair .de + 1)))

/-- `ADD HL,DE` (R280). -/
def execAdd_HL_DE (s : State) : Out := finish 2 (.ok () (addHl .de s))

/-- `DEC DE` (R282). -/
def execDec_DE (s : State) : Out := finish 2 (.ok () (s.setPair .de (s.pair .de - 1)))

/-- `INC HL` (R281). -/
def execInc_HL (s : State) : Out := finish 2 (.ok () (s.setPair .hl (s.pair .hl + 1)))

/-- `ADD HL,HL` (R280). -/
def execAdd_HL_HL (s : State) : Out := finish 2 (.ok () (addHl .hl s))

/-- `DEC HL` (R282). -/
def execDec_HL (s : State) : Out := finish 2 (.ok () (s.setPair .hl (s.pair .hl - 1)))

/-- `INC SP` (R281). -/
def execInc_SP (s : State) : Out := finish 2 (.ok () (s.setPair .sp (s.pair .sp + 1)))

/-- `ADD HL,SP` (R280). -/
def execAdd_HL_SP (s : State) : Out := finish 2 (.ok () (addHl .sp s))

/-- `DEC SP` (R282). -/
def execDec_SP (s : State) : Out := finish 2 (.ok () (s.setPair .sp (s.pair .sp - 1)))

/-- `ADD SP,e8` (R283). -/
def execAdd_SP_e8 (e : Byte) (s : State) : Out :=
  let r := addSigned s.cpu.sp e
  finish 4 (.ok () ((s.setSp r.1).setFlags false false r.2.1 r.2.2))

end Sys2Proof.Machine
end

