-- ==== Sys2Proof/Machine/Alu8.lean ====
section
/-! DEFINITION. 8-bit arithmetic and logic (`spec/43_alu8.md`). -/

namespace Sys2Proof.Machine

/-- `INC B` (R259). -/
def execInc_B (s : State) : Out := finish 1 (stepR8 incResult .b s)

/-- `DEC B` (R261). -/
def execDec_B (s : State) : Out := finish 1 (stepR8 decResult .b s)

/-- `INC C` (R259). -/
def execInc_C (s : State) : Out := finish 1 (stepR8 incResult .c s)

/-- `DEC C` (R261). -/
def execDec_C (s : State) : Out := finish 1 (stepR8 decResult .c s)

/-- `INC D` (R259). -/
def execInc_D (s : State) : Out := finish 1 (stepR8 incResult .d s)

/-- `DEC D` (R261). -/
def execDec_D (s : State) : Out := finish 1 (stepR8 decResult .d s)

/-- `INC E` (R259). -/
def execInc_E (s : State) : Out := finish 1 (stepR8 incResult .e s)

/-- `DEC E` (R261). -/
def execDec_E (s : State) : Out := finish 1 (stepR8 decResult .e s)

/-- `INC H` (R259). -/
def execInc_H (s : State) : Out := finish 1 (stepR8 incResult .h s)

/-- `DEC H` (R261). -/
def execDec_H (s : State) : Out := finish 1 (stepR8 decResult .h s)

/-- `DAA` (R263). -/
def execDaa (s : State) : Out :=
  let r := daaResult s.cpu.a s.flagN s.flagH s.flagC
  finish 1 (.ok () ((s.setA r.res).setFlags r.z r.n r.h r.c))

/-- `INC L` (R259). -/
def execInc_L (s : State) : Out := finish 1 (stepR8 incResult .l s)

/-- `DEC L` (R261). -/
def execDec_L (s : State) : Out := finish 1 (stepR8 decResult .l s)

/-- `CPL` (R264). -/
def execCpl (s : State) : Out := finish 1 (.ok () ((s.setA (~~~s.cpu.a)).setFlags s.flagZ true true s.flagC))

/-- `INC (HL)` (R260). -/
def execInc_mHL (s : State) : Out := finish 3 (stepR8 incResult .mHL s)

/-- `DEC (HL)` (R262). -/
def execDec_mHL (s : State) : Out := finish 3 (stepR8 decResult .mHL s)

/-- `SCF` (R265). -/
def execScf (s : State) : Out := finish 1 (.ok () (s.setFlags s.flagZ false false true))

/-- `INC A` (R259). -/
def execInc_A (s : State) : Out := finish 1 (stepR8 incResult .a s)

/-- `DEC A` (R261). -/
def execDec_A (s : State) : Out := finish 1 (stepR8 decResult .a s)

/-- `CCF` (R266). -/
def execCcf (s : State) : Out := finish 1 (.ok () (s.setFlags s.flagZ false false (!s.flagC)))

/-- `ADD A,B` (R251). -/
def execAdd_A_B (s : State) : Out := finish 1 (aluR8 .add .b s)

/-- `ADD A,C` (R251). -/
def execAdd_A_C (s : State) : Out := finish 1 (aluR8 .add .c s)

/-- `ADD A,D` (R251). -/
def execAdd_A_D (s : State) : Out := finish 1 (aluR8 .add .d s)

/-- `ADD A,E` (R251). -/
def execAdd_A_E (s : State) : Out := finish 1 (aluR8 .add .e s)

/-- `ADD A,H` (R251). -/
def execAdd_A_H (s : State) : Out := finish 1 (aluR8 .add .h s)

/-- `ADD A,L` (R251). -/
def execAdd_A_L (s : State) : Out := finish 1 (aluR8 .add .l s)

/-- `ADD A,(HL)` (R251). -/
def execAdd_A_mHL (s : State) : Out := finish 2 (aluR8 .add .mHL s)

/-- `ADD A,A` (R251). -/
def execAdd_A_A (s : State) : Out := finish 1 (aluR8 .add .a s)

/-- `ADC A,B` (R252). -/
def execAdc_A_B (s : State) : Out := finish 1 (aluR8 .adc .b s)

/-- `ADC A,C` (R252). -/
def execAdc_A_C (s : State) : Out := finish 1 (aluR8 .adc .c s)

/-- `ADC A,D` (R252). -/
def execAdc_A_D (s : State) : Out := finish 1 (aluR8 .adc .d s)

/-- `ADC A,E` (R252). -/
def execAdc_A_E (s : State) : Out := finish 1 (aluR8 .adc .e s)

/-- `ADC A,H` (R252). -/
def execAdc_A_H (s : State) : Out := finish 1 (aluR8 .adc .h s)

/-- `ADC A,L` (R252). -/
def execAdc_A_L (s : State) : Out := finish 1 (aluR8 .adc .l s)

/-- `ADC A,(HL)` (R252). -/
def execAdc_A_mHL (s : State) : Out := finish 2 (aluR8 .adc .mHL s)

/-- `ADC A,A` (R252). -/
def execAdc_A_A (s : State) : Out := finish 1 (aluR8 .adc .a s)

/-- `SUB B` (R253). -/
def execSub_B (s : State) : Out := finish 1 (aluR8 .sub .b s)

/-- `SUB C` (R253). -/
def execSub_C (s : State) : Out := finish 1 (aluR8 .sub .c s)

/-- `SUB D` (R253). -/
def execSub_D (s : State) : Out := finish 1 (aluR8 .sub .d s)

/-- `SUB E` (R253). -/
def execSub_E (s : State) : Out := finish 1 (aluR8 .sub .e s)

/-- `SUB H` (R253). -/
def execSub_H (s : State) : Out := finish 1 (aluR8 .sub .h s)

/-- `SUB L` (R253). -/
def execSub_L (s : State) : Out := finish 1 (aluR8 .sub .l s)

/-- `SUB (HL)` (R253). -/
def execSub_mHL (s : State) : Out := finish 2 (aluR8 .sub .mHL s)

/-- `SUB A` (R253). -/
def execSub_A (s : State) : Out := finish 1 (aluR8 .sub .a s)

/-- `SBC A,B` (R254). -/
def execSbc_A_B (s : State) : Out := finish 1 (aluR8 .sbc .b s)

/-- `SBC A,C` (R254). -/
def execSbc_A_C (s : State) : Out := finish 1 (aluR8 .sbc .c s)

/-- `SBC A,D` (R254). -/
def execSbc_A_D (s : State) : Out := finish 1 (aluR8 .sbc .d s)

/-- `SBC A,E` (R254). -/
def execSbc_A_E (s : State) : Out := finish 1 (aluR8 .sbc .e s)

/-- `SBC A,H` (R254). -/
def execSbc_A_H (s : State) : Out := finish 1 (aluR8 .sbc .h s)

/-- `SBC A,L` (R254). -/
def execSbc_A_L (s : State) : Out := finish 1 (aluR8 .sbc .l s)

/-- `SBC A,(HL)` (R254). -/
def execSbc_A_mHL (s : State) : Out := finish 2 (aluR8 .sbc .mHL s)

/-- `SBC A,A` (R254). -/
def execSbc_A_A (s : State) : Out := finish 1 (aluR8 .sbc .a s)

/-- `AND B` (R255). -/
def execAnd_B (s : State) : Out := finish 1 (aluR8 .and .b s)

/-- `AND C` (R255). -/
def execAnd_C (s : State) : Out := finish 1 (aluR8 .and .c s)

/-- `AND D` (R255). -/
def execAnd_D (s : State) : Out := finish 1 (aluR8 .and .d s)

/-- `AND E` (R255). -/
def execAnd_E (s : State) : Out := finish 1 (aluR8 .and .e s)

/-- `AND H` (R255). -/
def execAnd_H (s : State) : Out := finish 1 (aluR8 .and .h s)

/-- `AND L` (R255). -/
def execAnd_L (s : State) : Out := finish 1 (aluR8 .and .l s)

/-- `AND (HL)` (R255). -/
def execAnd_mHL (s : State) : Out := finish 2 (aluR8 .and .mHL s)

/-- `AND A` (R255). -/
def execAnd_A (s : State) : Out := finish 1 (aluR8 .and .a s)

/-- `XOR B` (R256). -/
def execXor_B (s : State) : Out := finish 1 (aluR8 .xor .b s)

/-- `XOR C` (R256). -/
def execXor_C (s : State) : Out := finish 1 (aluR8 .xor .c s)

/-- `XOR D` (R256). -/
def execXor_D (s : State) : Out := finish 1 (aluR8 .xor .d s)

/-- `XOR E` (R256). -/
def execXor_E (s : State) : Out := finish 1 (aluR8 .xor .e s)

/-- `XOR H` (R256). -/
def execXor_H (s : State) : Out := finish 1 (aluR8 .xor .h s)

/-- `XOR L` (R256). -/
def execXor_L (s : State) : Out := finish 1 (aluR8 .xor .l s)

/-- `XOR (HL)` (R256). -/
def execXor_mHL (s : State) : Out := finish 2 (aluR8 .xor .mHL s)

/-- `XOR A` (R256). -/
def execXor_A (s : State) : Out := finish 1 (aluR8 .xor .a s)

/-- `OR B` (R257). -/
def execOr_B (s : State) : Out := finish 1 (aluR8 .or .b s)

/-- `OR C` (R257). -/
def execOr_C (s : State) : Out := finish 1 (aluR8 .or .c s)

/-- `OR D` (R257). -/
def execOr_D (s : State) : Out := finish 1 (aluR8 .or .d s)

/-- `OR E` (R257). -/
def execOr_E (s : State) : Out := finish 1 (aluR8 .or .e s)

/-- `OR H` (R257). -/
def execOr_H (s : State) : Out := finish 1 (aluR8 .or .h s)

/-- `OR L` (R257). -/
def execOr_L (s : State) : Out := finish 1 (aluR8 .or .l s)

/-- `OR (HL)` (R257). -/
def execOr_mHL (s : State) : Out := finish 2 (aluR8 .or .mHL s)

/-- `OR A` (R257). -/
def execOr_A (s : State) : Out := finish 1 (aluR8 .or .a s)

/-- `CP B` (R258). -/
def execCp_B (s : State) : Out := finish 1 (aluR8 .cp .b s)

/-- `CP C` (R258). -/
def execCp_C (s : State) : Out := finish 1 (aluR8 .cp .c s)

/-- `CP D` (R258). -/
def execCp_D (s : State) : Out := finish 1 (aluR8 .cp .d s)

/-- `CP E` (R258). -/
def execCp_E (s : State) : Out := finish 1 (aluR8 .cp .e s)

/-- `CP H` (R258). -/
def execCp_H (s : State) : Out := finish 1 (aluR8 .cp .h s)

/-- `CP L` (R258). -/
def execCp_L (s : State) : Out := finish 1 (aluR8 .cp .l s)

/-- `CP (HL)` (R258). -/
def execCp_mHL (s : State) : Out := finish 2 (aluR8 .cp .mHL s)

/-- `CP A` (R258). -/
def execCp_A (s : State) : Out := finish 1 (aluR8 .cp .a s)

/-- `ADD A,d8` (R251). -/
def execAdd_A_d8 (n : Byte) (s : State) : Out := finish 2 (aluImm .add n s)

/-- `ADC A,d8` (R252). -/
def execAdc_A_d8 (n : Byte) (s : State) : Out := finish 2 (aluImm .adc n s)

/-- `SUB d8` (R253). -/
def execSub_d8 (n : Byte) (s : State) : Out := finish 2 (aluImm .sub n s)

/-- `SBC A,d8` (R254). -/
def execSbc_A_d8 (n : Byte) (s : State) : Out := finish 2 (aluImm .sbc n s)

/-- `AND d8` (R255). -/
def execAnd_d8 (n : Byte) (s : State) : Out := finish 2 (aluImm .and n s)

/-- `XOR d8` (R256). -/
def execXor_d8 (n : Byte) (s : State) : Out := finish 2 (aluImm .xor n s)

/-- `OR d8` (R257). -/
def execOr_d8 (n : Byte) (s : State) : Out := finish 2 (aluImm .or n s)

/-- `CP d8` (R258). -/
def execCp_d8 (n : Byte) (s : State) : Out := finish 2 (aluImm .cp n s)

end Sys2Proof.Machine
end

