-- ==== Sys2Proof/Machine/BitOps.lean ====
section
/-! DEFINITION. BIT, RES and SET: the alternate table, x = 1 to 3 (`spec/45_rotate_shift_bit.md`). -/

namespace Sys2Proof.Machine

/-- `BIT 0,B` (R303). -/
def execBit_0_B (s : State) : Out := finish 2 (bitR8 0 .b s)

/-- `BIT 0,C` (R303). -/
def execBit_0_C (s : State) : Out := finish 2 (bitR8 0 .c s)

/-- `BIT 0,D` (R303). -/
def execBit_0_D (s : State) : Out := finish 2 (bitR8 0 .d s)

/-- `BIT 0,E` (R303). -/
def execBit_0_E (s : State) : Out := finish 2 (bitR8 0 .e s)

/-- `BIT 0,H` (R303). -/
def execBit_0_H (s : State) : Out := finish 2 (bitR8 0 .h s)

/-- `BIT 0,L` (R303). -/
def execBit_0_L (s : State) : Out := finish 2 (bitR8 0 .l s)

/-- `BIT 0,(HL)` (R303). -/
def execBit_0_mHL (s : State) : Out := finish 3 (bitR8 0 .mHL s)

/-- `BIT 0,A` (R303). -/
def execBit_0_A (s : State) : Out := finish 2 (bitR8 0 .a s)

/-- `BIT 1,B` (R303). -/
def execBit_1_B (s : State) : Out := finish 2 (bitR8 1 .b s)

/-- `BIT 1,C` (R303). -/
def execBit_1_C (s : State) : Out := finish 2 (bitR8 1 .c s)

/-- `BIT 1,D` (R303). -/
def execBit_1_D (s : State) : Out := finish 2 (bitR8 1 .d s)

/-- `BIT 1,E` (R303). -/
def execBit_1_E (s : State) : Out := finish 2 (bitR8 1 .e s)

/-- `BIT 1,H` (R303). -/
def execBit_1_H (s : State) : Out := finish 2 (bitR8 1 .h s)

/-- `BIT 1,L` (R303). -/
def execBit_1_L (s : State) : Out := finish 2 (bitR8 1 .l s)

/-- `BIT 1,(HL)` (R303). -/
def execBit_1_mHL (s : State) : Out := finish 3 (bitR8 1 .mHL s)

/-- `BIT 1,A` (R303). -/
def execBit_1_A (s : State) : Out := finish 2 (bitR8 1 .a s)

/-- `BIT 2,B` (R303). -/
def execBit_2_B (s : State) : Out := finish 2 (bitR8 2 .b s)

/-- `BIT 2,C` (R303). -/
def execBit_2_C (s : State) : Out := finish 2 (bitR8 2 .c s)

/-- `BIT 2,D` (R303). -/
def execBit_2_D (s : State) : Out := finish 2 (bitR8 2 .d s)

/-- `BIT 2,E` (R303). -/
def execBit_2_E (s : State) : Out := finish 2 (bitR8 2 .e s)

/-- `BIT 2,H` (R303). -/
def execBit_2_H (s : State) : Out := finish 2 (bitR8 2 .h s)

/-- `BIT 2,L` (R303). -/
def execBit_2_L (s : State) : Out := finish 2 (bitR8 2 .l s)

/-- `BIT 2,(HL)` (R303). -/
def execBit_2_mHL (s : State) : Out := finish 3 (bitR8 2 .mHL s)

/-- `BIT 2,A` (R303). -/
def execBit_2_A (s : State) : Out := finish 2 (bitR8 2 .a s)

/-- `BIT 3,B` (R303). -/
def execBit_3_B (s : State) : Out := finish 2 (bitR8 3 .b s)

/-- `BIT 3,C` (R303). -/
def execBit_3_C (s : State) : Out := finish 2 (bitR8 3 .c s)

/-- `BIT 3,D` (R303). -/
def execBit_3_D (s : State) : Out := finish 2 (bitR8 3 .d s)

/-- `BIT 3,E` (R303). -/
def execBit_3_E (s : State) : Out := finish 2 (bitR8 3 .e s)

/-- `BIT 3,H` (R303). -/
def execBit_3_H (s : State) : Out := finish 2 (bitR8 3 .h s)

/-- `BIT 3,L` (R303). -/
def execBit_3_L (s : State) : Out := finish 2 (bitR8 3 .l s)

/-- `BIT 3,(HL)` (R303). -/
def execBit_3_mHL (s : State) : Out := finish 3 (bitR8 3 .mHL s)

/-- `BIT 3,A` (R303). -/
def execBit_3_A (s : State) : Out := finish 2 (bitR8 3 .a s)

/-- `BIT 4,B` (R303). -/
def execBit_4_B (s : State) : Out := finish 2 (bitR8 4 .b s)

/-- `BIT 4,C` (R303). -/
def execBit_4_C (s : State) : Out := finish 2 (bitR8 4 .c s)

/-- `BIT 4,D` (R303). -/
def execBit_4_D (s : State) : Out := finish 2 (bitR8 4 .d s)

/-- `BIT 4,E` (R303). -/
def execBit_4_E (s : State) : Out := finish 2 (bitR8 4 .e s)

/-- `BIT 4,H` (R303). -/
def execBit_4_H (s : State) : Out := finish 2 (bitR8 4 .h s)

/-- `BIT 4,L` (R303). -/
def execBit_4_L (s : State) : Out := finish 2 (bitR8 4 .l s)

/-- `BIT 4,(HL)` (R303). -/
def execBit_4_mHL (s : State) : Out := finish 3 (bitR8 4 .mHL s)

/-- `BIT 4,A` (R303). -/
def execBit_4_A (s : State) : Out := finish 2 (bitR8 4 .a s)

/-- `BIT 5,B` (R303). -/
def execBit_5_B (s : State) : Out := finish 2 (bitR8 5 .b s)

/-- `BIT 5,C` (R303). -/
def execBit_5_C (s : State) : Out := finish 2 (bitR8 5 .c s)

/-- `BIT 5,D` (R303). -/
def execBit_5_D (s : State) : Out := finish 2 (bitR8 5 .d s)

/-- `BIT 5,E` (R303). -/
def execBit_5_E (s : State) : Out := finish 2 (bitR8 5 .e s)

/-- `BIT 5,H` (R303). -/
def execBit_5_H (s : State) : Out := finish 2 (bitR8 5 .h s)

/-- `BIT 5,L` (R303). -/
def execBit_5_L (s : State) : Out := finish 2 (bitR8 5 .l s)

/-- `BIT 5,(HL)` (R303). -/
def execBit_5_mHL (s : State) : Out := finish 3 (bitR8 5 .mHL s)

/-- `BIT 5,A` (R303). -/
def execBit_5_A (s : State) : Out := finish 2 (bitR8 5 .a s)

/-- `BIT 6,B` (R303). -/
def execBit_6_B (s : State) : Out := finish 2 (bitR8 6 .b s)

/-- `BIT 6,C` (R303). -/
def execBit_6_C (s : State) : Out := finish 2 (bitR8 6 .c s)

/-- `BIT 6,D` (R303). -/
def execBit_6_D (s : State) : Out := finish 2 (bitR8 6 .d s)

/-- `BIT 6,E` (R303). -/
def execBit_6_E (s : State) : Out := finish 2 (bitR8 6 .e s)

/-- `BIT 6,H` (R303). -/
def execBit_6_H (s : State) : Out := finish 2 (bitR8 6 .h s)

/-- `BIT 6,L` (R303). -/
def execBit_6_L (s : State) : Out := finish 2 (bitR8 6 .l s)

/-- `BIT 6,(HL)` (R303). -/
def execBit_6_mHL (s : State) : Out := finish 3 (bitR8 6 .mHL s)

/-- `BIT 6,A` (R303). -/
def execBit_6_A (s : State) : Out := finish 2 (bitR8 6 .a s)

/-- `BIT 7,B` (R303). -/
def execBit_7_B (s : State) : Out := finish 2 (bitR8 7 .b s)

/-- `BIT 7,C` (R303). -/
def execBit_7_C (s : State) : Out := finish 2 (bitR8 7 .c s)

/-- `BIT 7,D` (R303). -/
def execBit_7_D (s : State) : Out := finish 2 (bitR8 7 .d s)

/-- `BIT 7,E` (R303). -/
def execBit_7_E (s : State) : Out := finish 2 (bitR8 7 .e s)

/-- `BIT 7,H` (R303). -/
def execBit_7_H (s : State) : Out := finish 2 (bitR8 7 .h s)

/-- `BIT 7,L` (R303). -/
def execBit_7_L (s : State) : Out := finish 2 (bitR8 7 .l s)

/-- `BIT 7,(HL)` (R303). -/
def execBit_7_mHL (s : State) : Out := finish 3 (bitR8 7 .mHL s)

/-- `BIT 7,A` (R303). -/
def execBit_7_A (s : State) : Out := finish 2 (bitR8 7 .a s)

/-- `RES 0,B` (R304). -/
def execRes_0_B (s : State) : Out := finish 2 (resR8 0 .b s)

/-- `RES 0,C` (R304). -/
def execRes_0_C (s : State) : Out := finish 2 (resR8 0 .c s)

/-- `RES 0,D` (R304). -/
def execRes_0_D (s : State) : Out := finish 2 (resR8 0 .d s)

/-- `RES 0,E` (R304). -/
def execRes_0_E (s : State) : Out := finish 2 (resR8 0 .e s)

/-- `RES 0,H` (R304). -/
def execRes_0_H (s : State) : Out := finish 2 (resR8 0 .h s)

/-- `RES 0,L` (R304). -/
def execRes_0_L (s : State) : Out := finish 2 (resR8 0 .l s)

/-- `RES 0,(HL)` (R304). -/
def execRes_0_mHL (s : State) : Out := finish 4 (resR8 0 .mHL s)

/-- `RES 0,A` (R304). -/
def execRes_0_A (s : State) : Out := finish 2 (resR8 0 .a s)

/-- `RES 1,B` (R304). -/
def execRes_1_B (s : State) : Out := finish 2 (resR8 1 .b s)

/-- `RES 1,C` (R304). -/
def execRes_1_C (s : State) : Out := finish 2 (resR8 1 .c s)

/-- `RES 1,D` (R304). -/
def execRes_1_D (s : State) : Out := finish 2 (resR8 1 .d s)

/-- `RES 1,E` (R304). -/
def execRes_1_E (s : State) : Out := finish 2 (resR8 1 .e s)

/-- `RES 1,H` (R304). -/
def execRes_1_H (s : State) : Out := finish 2 (resR8 1 .h s)

/-- `RES 1,L` (R304). -/
def execRes_1_L (s : State) : Out := finish 2 (resR8 1 .l s)

/-- `RES 1,(HL)` (R304). -/
def execRes_1_mHL (s : State) : Out := finish 4 (resR8 1 .mHL s)

/-- `RES 1,A` (R304). -/
def execRes_1_A (s : State) : Out := finish 2 (resR8 1 .a s)

/-- `RES 2,B` (R304). -/
def execRes_2_B (s : State) : Out := finish 2 (resR8 2 .b s)

/-- `RES 2,C` (R304). -/
def execRes_2_C (s : State) : Out := finish 2 (resR8 2 .c s)

/-- `RES 2,D` (R304). -/
def execRes_2_D (s : State) : Out := finish 2 (resR8 2 .d s)

/-- `RES 2,E` (R304). -/
def execRes_2_E (s : State) : Out := finish 2 (resR8 2 .e s)

/-- `RES 2,H` (R304). -/
def execRes_2_H (s : State) : Out := finish 2 (resR8 2 .h s)

/-- `RES 2,L` (R304). -/
def execRes_2_L (s : State) : Out := finish 2 (resR8 2 .l s)

/-- `RES 2,(HL)` (R304). -/
def execRes_2_mHL (s : State) : Out := finish 4 (resR8 2 .mHL s)

/-- `RES 2,A` (R304). -/
def execRes_2_A (s : State) : Out := finish 2 (resR8 2 .a s)

/-- `RES 3,B` (R304). -/
def execRes_3_B (s : State) : Out := finish 2 (resR8 3 .b s)

/-- `RES 3,C` (R304). -/
def execRes_3_C (s : State) : Out := finish 2 (resR8 3 .c s)

/-- `RES 3,D` (R304). -/
def execRes_3_D (s : State) : Out := finish 2 (resR8 3 .d s)

/-- `RES 3,E` (R304). -/
def execRes_3_E (s : State) : Out := finish 2 (resR8 3 .e s)

/-- `RES 3,H` (R304). -/
def execRes_3_H (s : State) : Out := finish 2 (resR8 3 .h s)

/-- `RES 3,L` (R304). -/
def execRes_3_L (s : State) : Out := finish 2 (resR8 3 .l s)

/-- `RES 3,(HL)` (R304). -/
def execRes_3_mHL (s : State) : Out := finish 4 (resR8 3 .mHL s)

/-- `RES 3,A` (R304). -/
def execRes_3_A (s : State) : Out := finish 2 (resR8 3 .a s)

/-- `RES 4,B` (R304). -/
def execRes_4_B (s : State) : Out := finish 2 (resR8 4 .b s)

/-- `RES 4,C` (R304). -/
def execRes_4_C (s : State) : Out := finish 2 (resR8 4 .c s)

/-- `RES 4,D` (R304). -/
def execRes_4_D (s : State) : Out := finish 2 (resR8 4 .d s)

/-- `RES 4,E` (R304). -/
def execRes_4_E (s : State) : Out := finish 2 (resR8 4 .e s)

/-- `RES 4,H` (R304). -/
def execRes_4_H (s : State) : Out := finish 2 (resR8 4 .h s)

/-- `RES 4,L` (R304). -/
def execRes_4_L (s : State) : Out := finish 2 (resR8 4 .l s)

/-- `RES 4,(HL)` (R304). -/
def execRes_4_mHL (s : State) : Out := finish 4 (resR8 4 .mHL s)

/-- `RES 4,A` (R304). -/
def execRes_4_A (s : State) : Out := finish 2 (resR8 4 .a s)

/-- `RES 5,B` (R304). -/
def execRes_5_B (s : State) : Out := finish 2 (resR8 5 .b s)

/-- `RES 5,C` (R304). -/
def execRes_5_C (s : State) : Out := finish 2 (resR8 5 .c s)

/-- `RES 5,D` (R304). -/
def execRes_5_D (s : State) : Out := finish 2 (resR8 5 .d s)

/-- `RES 5,E` (R304). -/
def execRes_5_E (s : State) : Out := finish 2 (resR8 5 .e s)

/-- `RES 5,H` (R304). -/
def execRes_5_H (s : State) : Out := finish 2 (resR8 5 .h s)

/-- `RES 5,L` (R304). -/
def execRes_5_L (s : State) : Out := finish 2 (resR8 5 .l s)

/-- `RES 5,(HL)` (R304). -/
def execRes_5_mHL (s : State) : Out := finish 4 (resR8 5 .mHL s)

/-- `RES 5,A` (R304). -/
def execRes_5_A (s : State) : Out := finish 2 (resR8 5 .a s)

/-- `RES 6,B` (R304). -/
def execRes_6_B (s : State) : Out := finish 2 (resR8 6 .b s)

/-- `RES 6,C` (R304). -/
def execRes_6_C (s : State) : Out := finish 2 (resR8 6 .c s)

/-- `RES 6,D` (R304). -/
def execRes_6_D (s : State) : Out := finish 2 (resR8 6 .d s)

/-- `RES 6,E` (R304). -/
def execRes_6_E (s : State) : Out := finish 2 (resR8 6 .e s)

/-- `RES 6,H` (R304). -/
def execRes_6_H (s : State) : Out := finish 2 (resR8 6 .h s)

/-- `RES 6,L` (R304). -/
def execRes_6_L (s : State) : Out := finish 2 (resR8 6 .l s)

/-- `RES 6,(HL)` (R304). -/
def execRes_6_mHL (s : State) : Out := finish 4 (resR8 6 .mHL s)

/-- `RES 6,A` (R304). -/
def execRes_6_A (s : State) : Out := finish 2 (resR8 6 .a s)

/-- `RES 7,B` (R304). -/
def execRes_7_B (s : State) : Out := finish 2 (resR8 7 .b s)

/-- `RES 7,C` (R304). -/
def execRes_7_C (s : State) : Out := finish 2 (resR8 7 .c s)

/-- `RES 7,D` (R304). -/
def execRes_7_D (s : State) : Out := finish 2 (resR8 7 .d s)

/-- `RES 7,E` (R304). -/
def execRes_7_E (s : State) : Out := finish 2 (resR8 7 .e s)

/-- `RES 7,H` (R304). -/
def execRes_7_H (s : State) : Out := finish 2 (resR8 7 .h s)

/-- `RES 7,L` (R304). -/
def execRes_7_L (s : State) : Out := finish 2 (resR8 7 .l s)

/-- `RES 7,(HL)` (R304). -/
def execRes_7_mHL (s : State) : Out := finish 4 (resR8 7 .mHL s)

/-- `RES 7,A` (R304). -/
def execRes_7_A (s : State) : Out := finish 2 (resR8 7 .a s)

/-- `SET 0,B` (R305). -/
def execSet_0_B (s : State) : Out := finish 2 (setR8 0 .b s)

/-- `SET 0,C` (R305). -/
def execSet_0_C (s : State) : Out := finish 2 (setR8 0 .c s)

/-- `SET 0,D` (R305). -/
def execSet_0_D (s : State) : Out := finish 2 (setR8 0 .d s)

/-- `SET 0,E` (R305). -/
def execSet_0_E (s : State) : Out := finish 2 (setR8 0 .e s)

/-- `SET 0,H` (R305). -/
def execSet_0_H (s : State) : Out := finish 2 (setR8 0 .h s)

/-- `SET 0,L` (R305). -/
def execSet_0_L (s : State) : Out := finish 2 (setR8 0 .l s)

/-- `SET 0,(HL)` (R305). -/
def execSet_0_mHL (s : State) : Out := finish 4 (setR8 0 .mHL s)

/-- `SET 0,A` (R305). -/
def execSet_0_A (s : State) : Out := finish 2 (setR8 0 .a s)

/-- `SET 1,B` (R305). -/
def execSet_1_B (s : State) : Out := finish 2 (setR8 1 .b s)

/-- `SET 1,C` (R305). -/
def execSet_1_C (s : State) : Out := finish 2 (setR8 1 .c s)

/-- `SET 1,D` (R305). -/
def execSet_1_D (s : State) : Out := finish 2 (setR8 1 .d s)

/-- `SET 1,E` (R305). -/
def execSet_1_E (s : State) : Out := finish 2 (setR8 1 .e s)

/-- `SET 1,H` (R305). -/
def execSet_1_H (s : State) : Out := finish 2 (setR8 1 .h s)

/-- `SET 1,L` (R305). -/
def execSet_1_L (s : State) : Out := finish 2 (setR8 1 .l s)

/-- `SET 1,(HL)` (R305). -/
def execSet_1_mHL (s : State) : Out := finish 4 (setR8 1 .mHL s)

/-- `SET 1,A` (R305). -/
def execSet_1_A (s : State) : Out := finish 2 (setR8 1 .a s)

/-- `SET 2,B` (R305). -/
def execSet_2_B (s : State) : Out := finish 2 (setR8 2 .b s)

/-- `SET 2,C` (R305). -/
def execSet_2_C (s : State) : Out := finish 2 (setR8 2 .c s)

/-- `SET 2,D` (R305). -/
def execSet_2_D (s : State) : Out := finish 2 (setR8 2 .d s)

/-- `SET 2,E` (R305). -/
def execSet_2_E (s : State) : Out := finish 2 (setR8 2 .e s)

/-- `SET 2,H` (R305). -/
def execSet_2_H (s : State) : Out := finish 2 (setR8 2 .h s)

/-- `SET 2,L` (R305). -/
def execSet_2_L (s : State) : Out := finish 2 (setR8 2 .l s)

/-- `SET 2,(HL)` (R305). -/
def execSet_2_mHL (s : State) : Out := finish 4 (setR8 2 .mHL s)

/-- `SET 2,A` (R305). -/
def execSet_2_A (s : State) : Out := finish 2 (setR8 2 .a s)

/-- `SET 3,B` (R305). -/
def execSet_3_B (s : State) : Out := finish 2 (setR8 3 .b s)

/-- `SET 3,C` (R305). -/
def execSet_3_C (s : State) : Out := finish 2 (setR8 3 .c s)

/-- `SET 3,D` (R305). -/
def execSet_3_D (s : State) : Out := finish 2 (setR8 3 .d s)

/-- `SET 3,E` (R305). -/
def execSet_3_E (s : State) : Out := finish 2 (setR8 3 .e s)

/-- `SET 3,H` (R305). -/
def execSet_3_H (s : State) : Out := finish 2 (setR8 3 .h s)

/-- `SET 3,L` (R305). -/
def execSet_3_L (s : State) : Out := finish 2 (setR8 3 .l s)

/-- `SET 3,(HL)` (R305). -/
def execSet_3_mHL (s : State) : Out := finish 4 (setR8 3 .mHL s)

/-- `SET 3,A` (R305). -/
def execSet_3_A (s : State) : Out := finish 2 (setR8 3 .a s)

/-- `SET 4,B` (R305). -/
def execSet_4_B (s : State) : Out := finish 2 (setR8 4 .b s)

/-- `SET 4,C` (R305). -/
def execSet_4_C (s : State) : Out := finish 2 (setR8 4 .c s)

/-- `SET 4,D` (R305). -/
def execSet_4_D (s : State) : Out := finish 2 (setR8 4 .d s)

/-- `SET 4,E` (R305). -/
def execSet_4_E (s : State) : Out := finish 2 (setR8 4 .e s)

/-- `SET 4,H` (R305). -/
def execSet_4_H (s : State) : Out := finish 2 (setR8 4 .h s)

/-- `SET 4,L` (R305). -/
def execSet_4_L (s : State) : Out := finish 2 (setR8 4 .l s)

/-- `SET 4,(HL)` (R305). -/
def execSet_4_mHL (s : State) : Out := finish 4 (setR8 4 .mHL s)

/-- `SET 4,A` (R305). -/
def execSet_4_A (s : State) : Out := finish 2 (setR8 4 .a s)

/-- `SET 5,B` (R305). -/
def execSet_5_B (s : State) : Out := finish 2 (setR8 5 .b s)

/-- `SET 5,C` (R305). -/
def execSet_5_C (s : State) : Out := finish 2 (setR8 5 .c s)

/-- `SET 5,D` (R305). -/
def execSet_5_D (s : State) : Out := finish 2 (setR8 5 .d s)

/-- `SET 5,E` (R305). -/
def execSet_5_E (s : State) : Out := finish 2 (setR8 5 .e s)

/-- `SET 5,H` (R305). -/
def execSet_5_H (s : State) : Out := finish 2 (setR8 5 .h s)

/-- `SET 5,L` (R305). -/
def execSet_5_L (s : State) : Out := finish 2 (setR8 5 .l s)

/-- `SET 5,(HL)` (R305). -/
def execSet_5_mHL (s : State) : Out := finish 4 (setR8 5 .mHL s)

/-- `SET 5,A` (R305). -/
def execSet_5_A (s : State) : Out := finish 2 (setR8 5 .a s)

/-- `SET 6,B` (R305). -/
def execSet_6_B (s : State) : Out := finish 2 (setR8 6 .b s)

/-- `SET 6,C` (R305). -/
def execSet_6_C (s : State) : Out := finish 2 (setR8 6 .c s)

/-- `SET 6,D` (R305). -/
def execSet_6_D (s : State) : Out := finish 2 (setR8 6 .d s)

/-- `SET 6,E` (R305). -/
def execSet_6_E (s : State) : Out := finish 2 (setR8 6 .e s)

/-- `SET 6,H` (R305). -/
def execSet_6_H (s : State) : Out := finish 2 (setR8 6 .h s)

/-- `SET 6,L` (R305). -/
def execSet_6_L (s : State) : Out := finish 2 (setR8 6 .l s)

/-- `SET 6,(HL)` (R305). -/
def execSet_6_mHL (s : State) : Out := finish 4 (setR8 6 .mHL s)

/-- `SET 6,A` (R305). -/
def execSet_6_A (s : State) : Out := finish 2 (setR8 6 .a s)

/-- `SET 7,B` (R305). -/
def execSet_7_B (s : State) : Out := finish 2 (setR8 7 .b s)

/-- `SET 7,C` (R305). -/
def execSet_7_C (s : State) : Out := finish 2 (setR8 7 .c s)

/-- `SET 7,D` (R305). -/
def execSet_7_D (s : State) : Out := finish 2 (setR8 7 .d s)

/-- `SET 7,E` (R305). -/
def execSet_7_E (s : State) : Out := finish 2 (setR8 7 .e s)

/-- `SET 7,H` (R305). -/
def execSet_7_H (s : State) : Out := finish 2 (setR8 7 .h s)

/-- `SET 7,L` (R305). -/
def execSet_7_L (s : State) : Out := finish 2 (setR8 7 .l s)

/-- `SET 7,(HL)` (R305). -/
def execSet_7_mHL (s : State) : Out := finish 4 (setR8 7 .mHL s)

/-- `SET 7,A` (R305). -/
def execSet_7_A (s : State) : Out := finish 2 (setR8 7 .a s)

end Sys2Proof.Machine
end

