-- ==== Sys2Proof/Machine/Control.lean ====
section
/-! DEFINITION. Jumps, calls and returns (`spec/46_control_flow.md`). No instruction of this family writes a flag. -/

namespace Sys2Proof.Machine

/-- `JR e8` (R324). -/
def execJr_e8 (e : Byte) (s : State) : Out := finish 3 (.ok () (jumpRelative e s))

/-- `JR NZ,e8` (R325). -/
def execJr_NZ_e8 (e : Byte) (s : State) : Out :=
  finishWith (whenCond .nz 3 2 (fun s => .ok () (jumpRelative e s)) s)

/-- `JR Z,e8` (R325). -/
def execJr_Z_e8 (e : Byte) (s : State) : Out := finishWith (whenCond .z 3 2 (fun s => .ok () (jumpRelative e s)) s)

/-- `JR NC,e8` (R325). -/
def execJr_NC_e8 (e : Byte) (s : State) : Out :=
  finishWith (whenCond .nc 3 2 (fun s => .ok () (jumpRelative e s)) s)

/-- `JR C,e8` (R325). -/
def execJr_C_e8 (e : Byte) (s : State) : Out := finishWith (whenCond .c 3 2 (fun s => .ok () (jumpRelative e s)) s)

/-- `RET NZ` (R329). -/
def execRet_NZ (s : State) : Out := finishWith (whenCond .nz 5 2 ret s)

/-- `JP NZ,a16` (R322). -/
def execJp_NZ_a16 (a : Word) (s : State) : Out := finishWith (whenCond .nz 4 3 (fun s => .ok () (s.setPc a)) s)

/-- `JP a16` (R321). -/
def execJp_a16 (a : Word) (s : State) : Out := finish 4 (.ok () (s.setPc a))

/-- `CALL NZ,a16` (R327). -/
def execCall_NZ_a16 (a : Word) (s : State) : Out := finishWith (whenCond .nz 6 3 (callTo a) s)

/-- `RST 0x00` (R331). -/
def execRst_00 (s : State) : Out := finish 4 (callTo 0x00 s)

/-- `RET Z` (R329). -/
def execRet_Z (s : State) : Out := finishWith (whenCond .z 5 2 ret s)

/-- `RET` (R328). -/
def execRet (s : State) : Out := finish 4 (ret s)

/-- `JP Z,a16` (R322). -/
def execJp_Z_a16 (a : Word) (s : State) : Out := finishWith (whenCond .z 4 3 (fun s => .ok () (s.setPc a)) s)

/-- `CALL Z,a16` (R327). -/
def execCall_Z_a16 (a : Word) (s : State) : Out := finishWith (whenCond .z 6 3 (callTo a) s)

/-- `CALL a16` (R326). -/
def execCall_a16 (a : Word) (s : State) : Out := finish 6 (callTo a s)

/-- `RST 0x08` (R331). -/
def execRst_08 (s : State) : Out := finish 4 (callTo 0x08 s)

/-- `RET NC` (R329). -/
def execRet_NC (s : State) : Out := finishWith (whenCond .nc 5 2 ret s)

/-- `JP NC,a16` (R322). -/
def execJp_NC_a16 (a : Word) (s : State) : Out := finishWith (whenCond .nc 4 3 (fun s => .ok () (s.setPc a)) s)

/-- `CALL NC,a16` (R327). -/
def execCall_NC_a16 (a : Word) (s : State) : Out := finishWith (whenCond .nc 6 3 (callTo a) s)

/-- `RST 0x10` (R331). -/
def execRst_10 (s : State) : Out := finish 4 (callTo 0x10 s)

/-- `RET C` (R329). -/
def execRet_C (s : State) : Out := finishWith (whenCond .c 5 2 ret s)

/-- `RETI` (R330). -/
def execReti (s : State) : Out := finish 4 (returnFromInterrupt s)

/-- `JP C,a16` (R322). -/
def execJp_C_a16 (a : Word) (s : State) : Out := finishWith (whenCond .c 4 3 (fun s => .ok () (s.setPc a)) s)

/-- `CALL C,a16` (R327). -/
def execCall_C_a16 (a : Word) (s : State) : Out := finishWith (whenCond .c 6 3 (callTo a) s)

/-- `RST 0x18` (R331). -/
def execRst_18 (s : State) : Out := finish 4 (callTo 0x18 s)

/-- `RST 0x20` (R331). -/
def execRst_20 (s : State) : Out := finish 4 (callTo 0x20 s)

/-- `JP HL` (R323). -/
def execJp_HL (s : State) : Out := finish 1 (.ok () (s.setPc s.hl))

/-- `RST 0x28` (R331). -/
def execRst_28 (s : State) : Out := finish 4 (callTo 0x28 s)

/-- `RST 0x30` (R331). -/
def execRst_30 (s : State) : Out := finish 4 (callTo 0x30 s)

/-- `RST 0x38` (R331). -/
def execRst_38 (s : State) : Out := finish 4 (callTo 0x38 s)

end Sys2Proof.Machine
end

