-- ==== Sys2Proof/Machine/Load16.lean ====
section
/-! DEFINITION. 16-bit loads and the stack instructions (`spec/42_load16_stack.md`). -/

namespace Sys2Proof.Machine

/-- `LD BC,d16` (R230). -/
def execLd_BC_d16 (n : Word) (s : State) : Out := finish 3 (.ok () (s.setPair .bc n))

/-- `LD (a16),SP` (R231). -/
def execLd_ma16_SP (a : Word) (s : State) : Out := finish 5 (memWriteWord a s.cpu.sp s)

/-- `LD DE,d16` (R230). -/
def execLd_DE_d16 (n : Word) (s : State) : Out := finish 3 (.ok () (s.setPair .de n))

/-- `LD HL,d16` (R230). -/
def execLd_HL_d16 (n : Word) (s : State) : Out := finish 3 (.ok () (s.setPair .hl n))

/-- `LD SP,d16` (R230). -/
def execLd_SP_d16 (n : Word) (s : State) : Out := finish 3 (.ok () (s.setPair .sp n))

/-- `POP BC` (R235). -/
def execPop_BC (s : State) : Out := finish 3 ((pop16 s).bind fun v s => .ok () (s.setStkPair .bc v))

/-- `PUSH BC` (R234). -/
def execPush_BC (s : State) : Out := finish 4 (push16 (s.stkPair .bc) s)

/-- `POP DE` (R235). -/
def execPop_DE (s : State) : Out := finish 3 ((pop16 s).bind fun v s => .ok () (s.setStkPair .de v))

/-- `PUSH DE` (R234). -/
def execPush_DE (s : State) : Out := finish 4 (push16 (s.stkPair .de) s)

/-- `POP HL` (R235). -/
def execPop_HL (s : State) : Out := finish 3 ((pop16 s).bind fun v s => .ok () (s.setStkPair .hl v))

/-- `PUSH HL` (R234). -/
def execPush_HL (s : State) : Out := finish 4 (push16 (s.stkPair .hl) s)

/-- `POP AF` (R236). -/
def execPop_AF (s : State) : Out := finish 3 ((pop16 s).bind fun v s => .ok () (s.setStkPair .af v))

/-- `PUSH AF` (R234). -/
def execPush_AF (s : State) : Out := finish 4 (push16 (s.stkPair .af) s)

/-- `LD HL,SP+e8` (R233). -/
def execLd_HL_SPe8 (e : Byte) (s : State) : Out :=
  let r := addSigned s.cpu.sp e
  finish 3 (.ok () ((s.setHl r.1).setFlags false false r.2.1 r.2.2))

/-- `LD SP,HL` (R232). -/
def execLd_SP_HL (s : State) : Out := finish 2 (.ok () (s.setSp s.hl))

end Sys2Proof.Machine
end

