-- ==== Sys2Proof/Machine/Load8.lean ====
section
/-! DEFINITION. 8-bit loads (`spec/41_load8.md`). No instruction of this family writes a flag. -/

namespace Sys2Proof.Machine

/-- `LD (BC),A` (R207). -/
def execLd_mBC_A (s : State) : Out := finish 2 (storeAPtr .bc s)

/-- `LD B,d8` (R203). -/
def execLd_B_d8 (n : Byte) (s : State) : Out := finish 2 (ldImm .b n s)

/-- `LD A,(BC)` (R205). -/
def execLd_A_mBC (s : State) : Out := finish 2 (loadAPtr .bc s)

/-- `LD C,d8` (R203). -/
def execLd_C_d8 (n : Byte) (s : State) : Out := finish 2 (ldImm .c n s)

/-- `LD (DE),A` (R208). -/
def execLd_mDE_A (s : State) : Out := finish 2 (storeAPtr .de s)

/-- `LD D,d8` (R203). -/
def execLd_D_d8 (n : Byte) (s : State) : Out := finish 2 (ldImm .d n s)

/-- `LD A,(DE)` (R206). -/
def execLd_A_mDE (s : State) : Out := finish 2 (loadAPtr .de s)

/-- `LD E,d8` (R203). -/
def execLd_E_d8 (n : Byte) (s : State) : Out := finish 2 (ldImm .e n s)

/-- `LD (HL+),A` (R215). -/
def execLd_mHLi_A (s : State) : Out := finish 2 (storeAPtr .hlInc s)

/-- `LD H,d8` (R203). -/
def execLd_H_d8 (n : Byte) (s : State) : Out := finish 2 (ldImm .h n s)

/-- `LD A,(HL+)` (R217). -/
def execLd_A_mHLi (s : State) : Out := finish 2 (loadAPtr .hlInc s)

/-- `LD L,d8` (R203). -/
def execLd_L_d8 (n : Byte) (s : State) : Out := finish 2 (ldImm .l n s)

/-- `LD (HL-),A` (R216). -/
def execLd_mHLd_A (s : State) : Out := finish 2 (storeAPtr .hlDec s)

/-- `LD (HL),d8` (R204). -/
def execLd_mHL_d8 (n : Byte) (s : State) : Out := finish 3 (ldImm .mHL n s)

/-- `LD A,(HL-)` (R218). -/
def execLd_A_mHLd (s : State) : Out := finish 2 (loadAPtr .hlDec s)

/-- `LD A,d8` (R203). -/
def execLd_A_d8 (n : Byte) (s : State) : Out := finish 2 (ldImm .a n s)

/-- `LD B,B` (R200). -/
def execLd_B_B (s : State) : Out := finish 1 (ld .b .b s)

/-- `LD B,C` (R200). -/
def execLd_B_C (s : State) : Out := finish 1 (ld .b .c s)

/-- `LD B,D` (R200). -/
def execLd_B_D (s : State) : Out := finish 1 (ld .b .d s)

/-- `LD B,E` (R200). -/
def execLd_B_E (s : State) : Out := finish 1 (ld .b .e s)

/-- `LD B,H` (R200). -/
def execLd_B_H (s : State) : Out := finish 1 (ld .b .h s)

/-- `LD B,L` (R200). -/
def execLd_B_L (s : State) : Out := finish 1 (ld .b .l s)

/-- `LD B,(HL)` (R201). -/
def execLd_B_mHL (s : State) : Out := finish 2 (ld .b .mHL s)

/-- `LD B,A` (R200). -/
def execLd_B_A (s : State) : Out := finish 1 (ld .b .a s)

/-- `LD C,B` (R200). -/
def execLd_C_B (s : State) : Out := finish 1 (ld .c .b s)

/-- `LD C,C` (R200). -/
def execLd_C_C (s : State) : Out := finish 1 (ld .c .c s)

/-- `LD C,D` (R200). -/
def execLd_C_D (s : State) : Out := finish 1 (ld .c .d s)

/-- `LD C,E` (R200). -/
def execLd_C_E (s : State) : Out := finish 1 (ld .c .e s)

/-- `LD C,H` (R200). -/
def execLd_C_H (s : State) : Out := finish 1 (ld .c .h s)

/-- `LD C,L` (R200). -/
def execLd_C_L (s : State) : Out := finish 1 (ld .c .l s)

/-- `LD C,(HL)` (R201). -/
def execLd_C_mHL (s : State) : Out := finish 2 (ld .c .mHL s)

/-- `LD C,A` (R200). -/
def execLd_C_A (s : State) : Out := finish 1 (ld .c .a s)

/-- `LD D,B` (R200). -/
def execLd_D_B (s : State) : Out := finish 1 (ld .d .b s)

/-- `LD D,C` (R200). -/
def execLd_D_C (s : State) : Out := finish 1 (ld .d .c s)

/-- `LD D,D` (R200). -/
def execLd_D_D (s : State) : Out := finish 1 (ld .d .d s)

/-- `LD D,E` (R200). -/
def execLd_D_E (s : State) : Out := finish 1 (ld .d .e s)

/-- `LD D,H` (R200). -/
def execLd_D_H (s : State) : Out := finish 1 (ld .d .h s)

/-- `LD D,L` (R200). -/
def execLd_D_L (s : State) : Out := finish 1 (ld .d .l s)

/-- `LD D,(HL)` (R201). -/
def execLd_D_mHL (s : State) : Out := finish 2 (ld .d .mHL s)

/-- `LD D,A` (R200). -/
def execLd_D_A (s : State) : Out := finish 1 (ld .d .a s)

/-- `LD E,B` (R200). -/
def execLd_E_B (s : State) : Out := finish 1 (ld .e .b s)

/-- `LD E,C` (R200). -/
def execLd_E_C (s : State) : Out := finish 1 (ld .e .c s)

/-- `LD E,D` (R200). -/
def execLd_E_D (s : State) : Out := finish 1 (ld .e .d s)

/-- `LD E,E` (R200). -/
def execLd_E_E (s : State) : Out := finish 1 (ld .e .e s)

/-- `LD E,H` (R200). -/
def execLd_E_H (s : State) : Out := finish 1 (ld .e .h s)

/-- `LD E,L` (R200). -/
def execLd_E_L (s : State) : Out := finish 1 (ld .e .l s)

/-- `LD E,(HL)` (R201). -/
def execLd_E_mHL (s : State) : Out := finish 2 (ld .e .mHL s)

/-- `LD E,A` (R200). -/
def execLd_E_A (s : State) : Out := finish 1 (ld .e .a s)

/-- `LD H,B` (R200). -/
def execLd_H_B (s : State) : Out := finish 1 (ld .h .b s)

/-- `LD H,C` (R200). -/
def execLd_H_C (s : State) : Out := finish 1 (ld .h .c s)

/-- `LD H,D` (R200). -/
def execLd_H_D (s : State) : Out := finish 1 (ld .h .d s)

/-- `LD H,E` (R200). -/
def execLd_H_E (s : State) : Out := finish 1 (ld .h .e s)

/-- `LD H,H` (R200). -/
def execLd_H_H (s : State) : Out := finish 1 (ld .h .h s)

/-- `LD H,L` (R200). -/
def execLd_H_L (s : State) : Out := finish 1 (ld .h .l s)

/-- `LD H,(HL)` (R201). -/
def execLd_H_mHL (s : State) : Out := finish 2 (ld .h .mHL s)

/-- `LD H,A` (R200). -/
def execLd_H_A (s : State) : Out := finish 1 (ld .h .a s)

/-- `LD L,B` (R200). -/
def execLd_L_B (s : State) : Out := finish 1 (ld .l .b s)

/-- `LD L,C` (R200). -/
def execLd_L_C (s : State) : Out := finish 1 (ld .l .c s)

/-- `LD L,D` (R200). -/
def execLd_L_D (s : State) : Out := finish 1 (ld .l .d s)

/-- `LD L,E` (R200). -/
def execLd_L_E (s : State) : Out := finish 1 (ld .l .e s)

/-- `LD L,H` (R200). -/
def execLd_L_H (s : State) : Out := finish 1 (ld .l .h s)

/-- `LD L,L` (R200). -/
def execLd_L_L (s : State) : Out := finish 1 (ld .l .l s)

/-- `LD L,(HL)` (R201). -/
def execLd_L_mHL (s : State) : Out := finish 2 (ld .l .mHL s)

/-- `LD L,A` (R200). -/
def execLd_L_A (s : State) : Out := finish 1 (ld .l .a s)

/-- `LD (HL),B` (R202). -/
def execLd_mHL_B (s : State) : Out := finish 2 (ld .mHL .b s)

/-- `LD (HL),C` (R202). -/
def execLd_mHL_C (s : State) : Out := finish 2 (ld .mHL .c s)

/-- `LD (HL),D` (R202). -/
def execLd_mHL_D (s : State) : Out := finish 2 (ld .mHL .d s)

/-- `LD (HL),E` (R202). -/
def execLd_mHL_E (s : State) : Out := finish 2 (ld .mHL .e s)

/-- `LD (HL),H` (R202). -/
def execLd_mHL_H (s : State) : Out := finish 2 (ld .mHL .h s)

/-- `LD (HL),L` (R202). -/
def execLd_mHL_L (s : State) : Out := finish 2 (ld .mHL .l s)

/-- `LD (HL),A` (R202). -/
def execLd_mHL_A (s : State) : Out := finish 2 (ld .mHL .a s)

/-- `LD A,B` (R200). -/
def execLd_A_B (s : State) : Out := finish 1 (ld .a .b s)

/-- `LD A,C` (R200). -/
def execLd_A_C (s : State) : Out := finish 1 (ld .a .c s)

/-- `LD A,D` (R200). -/
def execLd_A_D (s : State) : Out := finish 1 (ld .a .d s)

/-- `LD A,E` (R200). -/
def execLd_A_E (s : State) : Out := finish 1 (ld .a .e s)

/-- `LD A,H` (R200). -/
def execLd_A_H (s : State) : Out := finish 1 (ld .a .h s)

/-- `LD A,L` (R200). -/
def execLd_A_L (s : State) : Out := finish 1 (ld .a .l s)

/-- `LD A,(HL)` (R201). -/
def execLd_A_mHL (s : State) : Out := finish 2 (ld .a .mHL s)

/-- `LD A,A` (R200). -/
def execLd_A_A (s : State) : Out := finish 1 (ld .a .a s)

/-- `LDH (a8),A` (R212). -/
def execLdh_ma8_A (o : Byte) (s : State) : Out := finish 3 (storeA (highPage o) s)

/-- `LD (C),A` (R214). -/
def execLd_mC_A (s : State) : Out := finish 2 (storeA (highPage s.cpu.c) s)

/-- `LD (a16),A` (R210). -/
def execLd_ma16_A (a : Word) (s : State) : Out := finish 4 (storeA a s)

/-- `LDH A,(a8)` (R211). -/
def execLdh_A_ma8 (o : Byte) (s : State) : Out := finish 3 (loadA (highPage o) s)

/-- `LD A,(C)` (R213). -/
def execLd_A_mC (s : State) : Out := finish 2 (loadA (highPage s.cpu.c) s)

/-- `LD A,(a16)` (R209). -/
def execLd_A_ma16 (a : Word) (s : State) : Out := finish 4 (loadA a s)

end Sys2Proof.Machine
end

