-- ==== Sys2Proof/Machine/Rotate.lean ====
section
/-! DEFINITION. Rotates and shifts: the four of A in the primary table and the alternate table, x = 0 (`spec/45_rotate_shift_bit.md`). -/

namespace Sys2Proof.Machine

/-- `RLCA` (R290). -/
def execRlca (s : State) : Out := finish 1 (.ok () (rotateA .rlc s))

/-- `RRCA` (R291). -/
def execRrca (s : State) : Out := finish 1 (.ok () (rotateA .rrc s))

/-- `RLA` (R292). -/
def execRla (s : State) : Out := finish 1 (.ok () (rotateA .rl s))

/-- `RRA` (R293). -/
def execRra (s : State) : Out := finish 1 (.ok () (rotateA .rr s))

/-- `RLC B` (R295). -/
def execRlc_B (s : State) : Out := finish 2 (shiftR8 .rlc .b s)

/-- `RLC C` (R295). -/
def execRlc_C (s : State) : Out := finish 2 (shiftR8 .rlc .c s)

/-- `RLC D` (R295). -/
def execRlc_D (s : State) : Out := finish 2 (shiftR8 .rlc .d s)

/-- `RLC E` (R295). -/
def execRlc_E (s : State) : Out := finish 2 (shiftR8 .rlc .e s)

/-- `RLC H` (R295). -/
def execRlc_H (s : State) : Out := finish 2 (shiftR8 .rlc .h s)

/-- `RLC L` (R295). -/
def execRlc_L (s : State) : Out := finish 2 (shiftR8 .rlc .l s)

/-- `RLC (HL)` (R295). -/
def execRlc_mHL (s : State) : Out := finish 4 (shiftR8 .rlc .mHL s)

/-- `RLC A` (R295). -/
def execRlc_A (s : State) : Out := finish 2 (shiftR8 .rlc .a s)

/-- `RRC B` (R296). -/
def execRrc_B (s : State) : Out := finish 2 (shiftR8 .rrc .b s)

/-- `RRC C` (R296). -/
def execRrc_C (s : State) : Out := finish 2 (shiftR8 .rrc .c s)

/-- `RRC D` (R296). -/
def execRrc_D (s : State) : Out := finish 2 (shiftR8 .rrc .d s)

/-- `RRC E` (R296). -/
def execRrc_E (s : State) : Out := finish 2 (shiftR8 .rrc .e s)

/-- `RRC H` (R296). -/
def execRrc_H (s : State) : Out := finish 2 (shiftR8 .rrc .h s)

/-- `RRC L` (R296). -/
def execRrc_L (s : State) : Out := finish 2 (shiftR8 .rrc .l s)

/-- `RRC (HL)` (R296). -/
def execRrc_mHL (s : State) : Out := finish 4 (shiftR8 .rrc .mHL s)

/-- `RRC A` (R296). -/
def execRrc_A (s : State) : Out := finish 2 (shiftR8 .rrc .a s)

/-- `RL B` (R297). -/
def execRl_B (s : State) : Out := finish 2 (shiftR8 .rl .b s)

/-- `RL C` (R297). -/
def execRl_C (s : State) : Out := finish 2 (shiftR8 .rl .c s)

/-- `RL D` (R297). -/
def execRl_D (s : State) : Out := finish 2 (shiftR8 .rl .d s)

/-- `RL E` (R297). -/
def execRl_E (s : State) : Out := finish 2 (shiftR8 .rl .e s)

/-- `RL H` (R297). -/
def execRl_H (s : State) : Out := finish 2 (shiftR8 .rl .h s)

/-- `RL L` (R297). -/
def execRl_L (s : State) : Out := finish 2 (shiftR8 .rl .l s)

/-- `RL (HL)` (R297). -/
def execRl_mHL (s : State) : Out := finish 4 (shiftR8 .rl .mHL s)

/-- `RL A` (R297). -/
def execRl_A (s : State) : Out := finish 2 (shiftR8 .rl .a s)

/-- `RR B` (R298). -/
def execRr_B (s : State) : Out := finish 2 (shiftR8 .rr .b s)

/-- `RR C` (R298). -/
def execRr_C (s : State) : Out := finish 2 (shiftR8 .rr .c s)

/-- `RR D` (R298). -/
def execRr_D (s : State) : Out := finish 2 (shiftR8 .rr .d s)

/-- `RR E` (R298). -/
def execRr_E (s : State) : Out := finish 2 (shiftR8 .rr .e s)

/-- `RR H` (R298). -/
def execRr_H (s : State) : Out := finish 2 (shiftR8 .rr .h s)

/-- `RR L` (R298). -/
def execRr_L (s : State) : Out := finish 2 (shiftR8 .rr .l s)

/-- `RR (HL)` (R298). -/
def execRr_mHL (s : State) : Out := finish 4 (shiftR8 .rr .mHL s)

/-- `RR A` (R298). -/
def execRr_A (s : State) : Out := finish 2 (shiftR8 .rr .a s)

/-- `SLA B` (R299). -/
def execSla_B (s : State) : Out := finish 2 (shiftR8 .sla .b s)

/-- `SLA C` (R299). -/
def execSla_C (s : State) : Out := finish 2 (shiftR8 .sla .c s)

/-- `SLA D` (R299). -/
def execSla_D (s : State) : Out := finish 2 (shiftR8 .sla .d s)

/-- `SLA E` (R299). -/
def execSla_E (s : State) : Out := finish 2 (shiftR8 .sla .e s)

/-- `SLA H` (R299). -/
def execSla_H (s : State) : Out := finish 2 (shiftR8 .sla .h s)

/-- `SLA L` (R299). -/
def execSla_L (s : State) : Out := finish 2 (shiftR8 .sla .l s)

/-- `SLA (HL)` (R299). -/
def execSla_mHL (s : State) : Out := finish 4 (shiftR8 .sla .mHL s)

/-- `SLA A` (R299). -/
def execSla_A (s : State) : Out := finish 2 (shiftR8 .sla .a s)

/-- `SRA B` (R300). -/
def execSra_B (s : State) : Out := finish 2 (shiftR8 .sra .b s)

/-- `SRA C` (R300). -/
def execSra_C (s : State) : Out := finish 2 (shiftR8 .sra .c s)

/-- `SRA D` (R300). -/
def execSra_D (s : State) : Out := finish 2 (shiftR8 .sra .d s)

/-- `SRA E` (R300). -/
def execSra_E (s : State) : Out := finish 2 (shiftR8 .sra .e s)

/-- `SRA H` (R300). -/
def execSra_H (s : State) : Out := finish 2 (shiftR8 .sra .h s)

/-- `SRA L` (R300). -/
def execSra_L (s : State) : Out := finish 2 (shiftR8 .sra .l s)

/-- `SRA (HL)` (R300). -/
def execSra_mHL (s : State) : Out := finish 4 (shiftR8 .sra .mHL s)

/-- `SRA A` (R300). -/
def execSra_A (s : State) : Out := finish 2 (shiftR8 .sra .a s)

/-- `SWAP B` (R301). -/
def execSwap_B (s : State) : Out := finish 2 (shiftR8 .swap .b s)

/-- `SWAP C` (R301). -/
def execSwap_C (s : State) : Out := finish 2 (shiftR8 .swap .c s)

/-- `SWAP D` (R301). -/
def execSwap_D (s : State) : Out := finish 2 (shiftR8 .swap .d s)

/-- `SWAP E` (R301). -/
def execSwap_E (s : State) : Out := finish 2 (shiftR8 .swap .e s)

/-- `SWAP H` (R301). -/
def execSwap_H (s : State) : Out := finish 2 (shiftR8 .swap .h s)

/-- `SWAP L` (R301). -/
def execSwap_L (s : State) : Out := finish 2 (shiftR8 .swap .l s)

/-- `SWAP (HL)` (R301). -/
def execSwap_mHL (s : State) : Out := finish 4 (shiftR8 .swap .mHL s)

/-- `SWAP A` (R301). -/
def execSwap_A (s : State) : Out := finish 2 (shiftR8 .swap .a s)

/-- `SRL B` (R302). -/
def execSrl_B (s : State) : Out := finish 2 (shiftR8 .srl .b s)

/-- `SRL C` (R302). -/
def execSrl_C (s : State) : Out := finish 2 (shiftR8 .srl .c s)

/-- `SRL D` (R302). -/
def execSrl_D (s : State) : Out := finish 2 (shiftR8 .srl .d s)

/-- `SRL E` (R302). -/
def execSrl_E (s : State) : Out := finish 2 (shiftR8 .srl .e s)

/-- `SRL H` (R302). -/
def execSrl_H (s : State) : Out := finish 2 (shiftR8 .srl .h s)

/-- `SRL L` (R302). -/
def execSrl_L (s : State) : Out := finish 2 (shiftR8 .srl .l s)

/-- `SRL (HL)` (R302). -/
def execSrl_mHL (s : State) : Out := finish 4 (shiftR8 .srl .mHL s)

/-- `SRL A` (R302). -/
def execSrl_A (s : State) : Out := finish 2 (shiftR8 .srl .a s)

end Sys2Proof.Machine
end

