-- ==== Sys2Proof/WellFormed.lean ====
section
/-! DEFINITION. Which terms of `Instr` are instructions. Every operand value is legal (`spec/30_encoding.md` R159), so
the only check is the one on `unknown`: its byte is one of the eleven bytes with no entry in the primary table. -/

namespace Sys2Proof

/-- The eleven unknown opcode bytes (R159). -/
def unknownBytes : List Byte :=
  [0xD3, 0xDB, 0xDD, 0xE3, 0xE4, 0xEB, 0xEC, 0xED, 0xF4, 0xFC, 0xFD]

/-- The term stands for an instruction of the table. -/
def Instr.wellFormed : Instr → Bool
  | .unknown op => unknownBytes.contains op
  | _ => true

end Sys2Proof
end

