-- ==== Sys2Proof/Machine/System.lean ====
section
/-! DEFINITION. NOP, the prefix byte, HALT, STOP, DI, EI and the unknown opcodes (`spec/47_system.md`). -/

namespace Sys2Proof.Machine

/-- HALT (R342): the CPU is halted, unless IME is 0 and a source is pending and enabled: then the HALT bug is armed. -/
def haltCpu (s : State) : State :=
  if s.cpu.ime then s.setRunState .halted
  else if s.dispatchable = 0 then s.setRunState .halted
  else s.setHaltBug true

/-- The alternate table's own cost entry (R160, R294): 1 for a register, 2 for BIT on (HL), 3 for the rest on (HL). -/
def tableCost (op2 : Byte) : Nat :=
  if zField op2 = 6 then (if xField op2 = 1 then 2 else 3) else 1

/-- `ExecPrefixed(op2)` as R294 writes it, over the fields of the second byte. Returns the table's cost entry. -/
def execPrefixed (op2 : Byte) (s : State) : Res Nat :=
  let y := yField op2
  let z := R8.ofField (zField op2)
  let r :=
    match xField op2 with
    | 0 => shiftR8 (.ofField y) z s
    | 1 => bitR8 y.val z s
    | 2 => resR8 y.val z s
    | 3 => setR8 y.val z s
  r.bind fun _ s => .ok (tableCost op2) s

/-- `NOP` (R340). -/
def execNop (s : State) : Out := finish 1 (.ok () s)

/-- `STOP` (R343). The padding byte has been fetched and is ignored. -/
def execStop (_pad : Byte) (s : State) : Out := finish 1 (.ok () (s.setRunState .stopped))

/-- `HALT` (R342). -/
def execHalt (s : State) : Out := finish 1 (.ok () (haltCpu s))

/-- `PREFIX CB` (R341). The second byte is fetched here, at PC, and selects the instruction of the alternate table (R177, R179). -/
def execPrefix_CB (s : State) : Out :=
  finishWith ((imm8 s).bind fun op2 s => (execPrefixed op2 s).bind fun cost s => .ok (1 + cost) s)

/-- `UNKNOWN` (R346). No cost: the step does not complete. -/
def execUnknown (op : Byte) (s : State) : Out := finish 1 (raiseFatal (.unknownOpcode op s.cpu.opcodeAddr) s)

/-- `DI` (R344). -/
def execDi (s : State) : Out := finish 1 (.ok () (s.setIme false))

/-- `EI` (R345). -/
def execEi (s : State) : Out := finish 1 (.ok () (s.setIme true))

end Sys2Proof.Machine
end

