-- ==== Sys2Proof/Machine/Fetch.lean ====
section
/-! DEFINITION. Fetching and decoding one instruction (`spec/40_cpu_step.md` R177 to R180). -/

namespace Sys2Proof.Machine

/-- The opcode fetch: the byte at PC, and PC past it, but for the HALT bug, which suppresses that one increment and is
consumed by it (R177, R178). -/
def fetchOpcode (s : State) : Res Byte :=
  let a := s.cpu.pc
  (busRead16 a s).bind fun op s =>
    let s := s.setOpcodeAddr a
    .ok op (if s.cpu.haltBug then s.setHaltBug false else s.setPc (a + 1))

/-- `n` bytes fetched with `Imm8()` (R147). -/
def operandBytes : Nat → State → Res (List Byte)
  | 0, s => .ok [] s
  | n + 1, s => (imm8 s).bind fun b s => (operandBytes n s).bind fun bs s => .ok (b :: bs) s

/-- The instruction of an opcode byte and the operand bytes its length asks for. The last arm is never reached: with
`opLength op - 1` operand bytes `decode` answers an instruction. -/
def decodeFetched (op : Byte) (bs : List Byte) : Instr :=
  match decode (op :: bs) with
  | .ok (i, _) => i
  | .error _ => .unknown op

/-- The bytes of the instruction at PC are fetched in order, PC moves past them (R23), and they are decoded as they stand
at that moment (R141). -/
def fetch (s : State) : Res Instr :=
  (fetchOpcode s).bind fun op s =>
    (operandBytes (opLength op - 1) s).bind fun bs s => .ok (decodeFetched op bs) s

end Sys2Proof.Machine
end

