-- ==== Sys2Proof/Machine/Host.lean ====
section
/-! DEFINITION. The host's moves between two external ticks (`spec/70_reset_and_hazards.md` R545). -/

namespace Sys2Proof.Machine

/-- `HostPress(k)`: the joypad interrupt is raised once per newly pressed button, whatever the select lines (R100). -/
def hostPress (k : Fin 8) (s : State) : State :=
  if s.buttons.getLsbD k.val then s
  else (s.setButtons (s.buttons ||| ((1 : BitVec 8) <<< k.val))).raiseInterrupt .joypad

/-- `HostRelease(k)`: no interrupt (R100). -/
def hostRelease (k : Fin 8) (s : State) : State := s.setButtons (s.buttons &&& ~~~((1 : BitVec 8) <<< k.val))

/-- One move. -/
def hostMove (m : HostMove) (s : State) : Res Unit :=
  match m with
  | .press k => .ok () (hostPress k s)
  | .release k => .ok () (hostRelease k s)
  | .poke a v => hostWrite a v s

/-- Moves in order. -/
def hostMoves : List HostMove → State → Res Unit
  | [], s => .ok () s
  | m :: l, s => (hostMove m s).bind fun _ s => hostMoves l s

/-- The moves the schedule has before this tick, taken off it (log entry 11). -/
def hostTurn (s : State) : Res Unit :=
  match s.host with
  | [] => .ok () s
  | now :: later => hostMoves now (s.setHost later)

end Sys2Proof.Machine
end

