-- ==== Sys2Proof/Machine/Place.lean ====
section
/-! DEFINITION. Putting an instruction where the next step fetches it, for `State.withFetchWord`. It stands for the host's
loading of a program, and no step of the machine calls it (log entry 14). -/

namespace Sys2Proof.Machine

/-- A cell of memory that an instruction's byte can be put in, and fetched from again: no I/O register, no gap, no IE. -/
def isCell (s : State) : Region → Bool
  | .bootRom _ => true
  | .cartRom0 _ => s.cartLoaded
  | .cartRomX _ => s.cartLoaded
  | .vram _ => true
  | .cartRam _ => s.cartLoaded && s.cartRamMapped
  | .wram _ => true
  | .oam _ => true
  | .gap => false
  | .io _ => false
  | .hram _ => true
  | .ie => false
  | .outside => false

/-- Puts a byte in a memory cell, ROM as RAM. -/
def putCell (r : Region) (v : Byte) (s : State) : State :=
  match r with
  | .bootRom off => s.setMem { s.mem with bootRom := s.mem.bootRom.write off v }
  | .cartRom0 off => s.setMem { s.mem with cartRom0 := s.mem.cartRom0.write off v }
  | .cartRomX off => s.setMem { s.mem with cartRomX := s.mem.cartRomX.write off v }
  | .vram off => s.setMem { s.mem with vram := s.mem.vram.write off v }
  | .cartRam off => s.setMem { s.mem with cartRam := s.mem.cartRam.write off v }
  | .wram off => s.setMem { s.mem with wram := s.mem.wram.write off v }
  | .oam off => s.setMem { s.mem with oam := s.mem.oam.write off v }
  | .hram off => s.setMem { s.mem with hram := s.mem.hram.write off v }
  | .gap => s
  | .io _ => s
  | .ie => s
  | .outside => s

/-- Where the next step fetches from: PC, or where the reset work of the very first step puts it (R521). -/
def fetchAddr (s : State) : Word :=
  if s.cpu.runState = .reset then (if s.bootLoaded then 0x0000 else s.params.entryPoint) else s.cpu.pc

/-- Puts three bytes at `a`, `a + 1` and `a + 2`. -/
def putBytes (a : Word) (m : Byte × Byte × Byte) (s : State) : State :=
  putCell (locate s.banks (a + 2).toNat) m.2.2
    (putCell (locate s.banks (a + 1).toNat) m.2.1 (putCell (locate s.banks a.toNat) m.1 s))

/-- The three addresses from `a` on are memory cells. -/
def cellsFrom (a : Word) (s : State) : Bool :=
  isCell s (locate s.banks a.toNat) && isCell s (locate s.banks (a + 1).toNat) && isCell s (locate s.banks (a + 2).toNat)

/-- Nothing comes before the next step's fetch: no fault, no cycle pending, no wait state, no HALT bug, no host move
before the tick. -/
def readyToFetch (s : State) : State :=
  let s := { s with fault := none }
  let s := (s.setPending 0).setHaltBug false
  let s := if s.cpu.runState = .reset then s else s.setRunState .running
  match s.host with
  | [] => s
  | l => s.setHost ([] :: l)

/-- No interrupt comes before the next step's fetch: IME is cleared if the step would dispatch one. -/
def holdInterrupts (s : State) : State :=
  match cpuPrologue s with
  | .fetch _ => s
  | .done _ => s.setIme false

/-- Puts the bytes where the next step fetches; if those addresses are no memory cells, or the reset work could change
the map under them, in work RAM instead, with PC there. -/
def placeInstr (m : Byte × Byte × Byte) (s : State) : State :=
  let s := holdInterrupts (readyToFetch s)
  let inPlace := cellsFrom (fetchAddr s) s &&
    (s.cpu.runState != .reset || s.bootLoaded || (s.params.powerUp s.mode).ioWrites.isEmpty)
  if inPlace then putBytes (fetchAddr s) m s
  else putBytes 0xC000 m ((s.setRunState .running).setPc 0xC000)

end Sys2Proof.Machine
end

