-- ==== Sys2Proof/Machine/Transfer.lean ====
section
/-! DEFINITION. The Transfer Engine's step (`spec/62_transfer_engines.md`). -/

namespace Sys2Proof.Machine

/-- Moves the immediate transfer's next byte, through the Bus (R423). -/
def oamMoveByte (s : State) : Res Unit :=
  (busRead (s.oamDma.src.toNat + s.oamDma.copied) s).bind fun b s =>
    (busWrite (0xFE00 + s.oamDma.copied) b s).bind fun _ s =>
      .ok () (s.setOamDma { s.oamDma with copied := s.oamDma.copied + 1 })

/-- `OamStep()`: 161 ticks, of which the first moves nothing (R423). -/
def oamStep (s : State) : Res Unit :=
  let s := s.setOamDma { s.oamDma with ticks := s.oamDma.ticks + 1 }
  (if s.oamDma.ticks ≥ 2 then oamMoveByte s else .ok () s).bind fun _ s =>
    .ok () (if s.oamDma.ticks = 161 then s.setOamDma { s.oamDma with active := false } else s)

/-- Moves the gated transfer's next byte, through the Bus; the last one destroys the transfer (R434). -/
def hdmaMoveByte (s : State) : Res Unit :=
  (busRead (s.hdma.src.toNat + s.hdma.copied) s).bind fun b s =>
    (busWrite (s.hdma.dst.toNat + s.hdma.copied) b s).bind fun _ s =>
      let n := s.hdma.copied + 1
      .ok () (s.setHdma { s.hdma with copied := n, active := s.hdma.active && n != s.hdma.len })

/-- The gated transfer waits: it is HBlank-gated and the Video unit is in another mode (R433). -/
def State.hdmaWaits (s : State) : Bool := s.hdma.mode == .hblank && s.video.mode != .hblank

/-- `HdmaStep()`: of each two progressing ticks the first moves nothing (R434). -/
def hdmaStep (s : State) : Res Unit :=
  if s.hdmaWaits then .ok () s
  else if s.hdma.phase then hdmaMoveByte (s.setHdma { s.hdma with phase := false })
  else .ok () (s.setHdma { s.hdma with phase := true })

/-- `TransferStep()`: an active, not stopped gated transfer takes the tick (R420). -/
def transferStep (s : State) : Res Unit :=
  if s.hdma.active && !s.hdma.stopped then hdmaStep s
  else if s.oamDma.active then oamStep s
  else .ok () s

end Sys2Proof.Machine
end

