-- ==== Sys2Proof/Machine/Video.lean ====
section
/-! DEFINITION. The Video unit's step and the per-line compositor (`spec/63_video.md` sections 2, 4 and 5). -/

namespace Sys2Proof.Machine

/-! ### Geometry and framebuffers (R451, R455) -/

/-- A line of `BLANK` pixels: what an unlisted line of a framebuffer reads as. -/
def blankRow (p : Params) : List Rgb := List.replicate p.screenW p.blank

/-- The pixels of line `y`. -/
def Frame.row (p : Params) (f : Frame) (y : Nat) : List Rgb := Cells.read (fun _ => blankRow p) f y

/-- The framebuffer with line `y` replaced; a line the screen does not have is none of its lines (log entry 20). -/
def Frame.setRow (p : Params) (f : Frame) (y : Nat) (row : List Rgb) : Frame :=
  if y < p.screenH then Cells.write (fun _ => blankRow p) f y row else f

/-- The canonical form of a framebuffer: `SCREEN_H` lines of `SCREEN_W` pixels. -/
abbrev Frame.wf (p : Params) (f : Frame) : Prop :=
  Cells.wf (fun _ => blankRow p) p.screenH f ∧ ∀ r ∈ f, r.2.length = p.screenW

/-- Pixel (x, y). -/
def Frame.pixel (p : Params) (f : Frame) (x y : Nat) : Rgb := (f.row p y).getD x p.blank

/-- Byte `i` of a framebuffer, row-major, three channel bytes a pixel: R, G, B (R455). -/
def Frame.byteAt (p : Params) (f : Frame) (i : Nat) : Byte :=
  let px := f.pixel p (i / 3 % p.screenW) (i / 3 / p.screenW)
  match i % 3 with
  | 0 => px.r
  | 1 => px.g
  | _ => px.b

/-! ### What the compositor reads (R470 to R473) -/

/-- An entry of the sprite cache (R44, R470). -/
structure SpriteEntry where
  y : Byte
  x : Byte
  tile : Byte
  below : Bool
  yflip : Bool
  xflip : Bool
  dmgPal : Bool
  bank : Bool
  cgbPal : BitVec 3
  deriving DecidableEq, Repr

/-- The sprite cache as the function of OAM it is: entry `i`, 0 to 39 (R470). -/
def spriteEntry (oam : Bytes) (i : Nat) : SpriteEntry :=
  let a := oam.read (4 * i + 3)
  { y := oam.read (4 * i), x := oam.read (4 * i + 1), tile := oam.read (4 * i + 2)
    below := a.getLsbD 7, yflip := a.getLsbD 6, xflip := a.getLsbD 5, dmgPal := a.getLsbD 4, bank := a.getLsbD 3
    cgbPal := a.extractLsb' 0 3 }

/-- The byte of VRAM bank `bank` at address `addr`, 0x8000 to 0x9FFF, whatever `vram_bank` is (R134). -/
def State.vramAt (s : State) (bank : Bool) (addr : Nat) : Byte :=
  s.mem.vram.read (bitNat bank * 0x2000 + (addr - 0x8000))

/-- `TilePixel(bank, addr, r, c)`: the 2-bit colour index (R472). -/
def tilePixel (s : State) (bank : Bool) (addr r c : Nat) : Nat :=
  let lo := s.vramAt bank (addr + 2 * r)
  let hi := s.vramAt bank (addr + 2 * r + 1)
  2 * bitNat (hi.getLsbD (7 - c)) + bitNat (lo.getLsbD (7 - c))

/-- `BgTileAddr(idx)`: unsigned-indexed, or signed-indexed with the bias 0x9000 (R473). -/
def bgTileAddr (lcdc : Lcdc) (idx : Byte) : Nat :=
  if lcdc.tileData then 0x8000 + 16 * idx.toNat else (0x9000 + 16 * idx.toInt).toNat

/-! ### Colours (R488, R489, R496) -/

/-- `GRAY[s]`. -/
def grayLevel (g : Gray) (shade : BitVec 2) : Byte :=
  match shade.toFin with
  | 0 => g.shade0
  | 1 => g.shade1
  | 2 => g.shade2
  | 3 => g.shade3

/-- A colour index through a legacy palette: entry i in bits 2i+1:2i (R461, R488). -/
def dmgColour (p : Params) (pal : Byte) (idx : Nat) : Rgb :=
  let g := grayLevel p.gray (pal.extractLsb' (2 * idx) 2)
  { r := g, g := g, b := g }

/-- `SCALE5(v)`. -/
def scale5 (p : Params) (v : BitVec 5) : Byte := p.scale5.get v.toFin

/-- A colour index through palette `pal` of a colour palette memory (R489, R496). -/
def cgbColour (p : Params) (m : Bytes) (pal : BitVec 3) (idx : Nat) : Rgb :=
  let e := word16 (m.read (8 * pal.toNat + 2 * idx + 1)) (m.read (8 * pal.toNat + 2 * idx))
  { r := scale5 p (e.extractLsb' 0 5), g := scale5 p (e.extractLsb' 5 5), b := scale5 p (e.extractLsb' 10 5) }

/-- `BgColour(p, idx)`. -/
def bgColour (s : State) (pal : BitVec 3) (idx : Nat) : Rgb :=
  match s.mode with
  | .dmg => dmgColour s.params (s.ioRaw 0x47) idx
  | .cgb => cgbColour s.params s.video.bgPal pal idx

/-- `ObjColour(a, idx)`. -/
def objColour (s : State) (e : SpriteEntry) (idx : Nat) : Rgb :=
  match s.mode with
  | .dmg => dmgColour s.params (if e.dmgPal then s.ioRaw 0x49 else s.ioRaw 0x48) idx
  | .cgb => cgbColour s.params s.video.objPal e.cgbPal idx

/-! ### Background and window (R482 to R485) -/

/-- A background or window pixel: colour index, colour, and the tile's forced-above attribute. -/
structure BgPixel where
  idx : Nat
  rgb : Rgb
  above : Bool
  deriving DecidableEq, Repr

/-- The base address of a tile map (R458). -/
def mapBase (high : Bool) : Nat := if high then 0x9C00 else 0x9800

/-- The sample at pixel (px, py) of the 256 × 256 tile map at `base` (R484). -/
def sampleTile (s : State) (base py px : Nat) : BgPixel :=
  let m := base + 32 * (py / 8) + px / 8
  let attr : Byte := match s.mode with
    | .cgb => s.vramAt true m
    | .dmg => 0x00
  let r := if attr.getLsbD 6 then 7 - py % 8 else py % 8
  let c := if attr.getLsbD 5 then 7 - px % 8 else px % 8
  let idx := tilePixel s (attr.getLsbD 3) (bgTileAddr s.video.lcdc (s.vramAt false m)) r c
  { idx := idx, rgb := bgColour s (attr.extractLsb' 0 3) idx, above := attr.getLsbD 7 }

/-- The window holds at pixel (x, L): on, the line at or below WY, the column at or right of WX − 7 (R482). -/
def windowHolds (s : State) (l x : Nat) : Bool :=
  s.video.lcdc.winEn && decide ((s.ioRaw 0x4A).toNat ≤ l) && decide ((s.ioRaw 0x4B).toNat ≤ x + 7)

/-- The background or window pixel (x, L) (R483 to R485). -/
def bgWinPixel (s : State) (l x : Nat) : BgPixel :=
  if windowHolds s l x then
    sampleTile s (mapBase s.video.lcdc.winMap) (l - (s.ioRaw 0x4A).toNat) (x + 7 - (s.ioRaw 0x4B).toNat)
  else if s.mode = .cgb ∨ s.video.lcdc.bgEn then
    sampleTile s (mapBase s.video.lcdc.bgMap) ((l + (s.ioRaw 0x42).toNat) % 256) ((x + (s.ioRaw 0x43).toNat) % 256)
  else { idx := 0, rgb := s.params.blank, above := false }

/-! ### Sprites (R481, R486) -/

/-- The height of a sprite (R458). -/
def spriteHeight (s : State) : Nat := if s.video.lcdc.objSize then 16 else 8

/-- Line `l` is within the sprite's vertical extent; its top is y − 16 (R481). -/
def spriteCovers (s : State) (l : Nat) (e : SpriteEntry) : Bool :=
  decide (e.y.toNat ≤ l + 16 ∧ l + 16 < e.y.toNat + spriteHeight s)

/-- Puts a sprite behind those whose x is at most its own. -/
def insertByX (e : SpriteEntry) : List SpriteEntry → List SpriteEntry
  | [] => [e]
  | e' :: l => if e.x.toNat < e'.x.toNat then e :: e' :: l else e' :: insertByX e l

/-- A stable sort by ascending x (R481). -/
def sortByX (l : List SpriteEntry) : List SpriteEntry := l.foldl (fun acc e => insertByX e acc) []

/-- `SelectSprites(L)`: at most ten entries, in OAM order; in legacy mode re-ordered by x (R481). -/
def selectSprites (s : State) (l : Nat) : List SpriteEntry :=
  if s.video.lcdc.objEn then
    let found := (((List.range 40).map (spriteEntry s.mem.oam)).filter (spriteCovers s l)).take 10
    match s.mode with
    | .dmg => sortByX found
    | .cgb => found
  else []

/-- A sprite's colour index at pixel (x, L), none where the sprite does not reach (R486). -/
def spriteIndex (s : State) (e : SpriteEntry) (l x : Nat) : Option Nat :=
  if e.x.toNat ≤ x + 8 ∧ x + 8 < e.x.toNat + 8 then
    let h := spriteHeight s
    let row := l + 16 - e.y.toNat
    let col := x + 8 - e.x.toNat
    let r := if e.yflip then h - 1 - row else row
    let c := if e.xflip then 7 - col else col
    let t : Byte := if s.video.lcdc.objSize then e.tile &&& 0xFE else e.tile
    some (tilePixel s (s.mode == .cgb && e.bank) (0x8000 + 16 * t.toNat) r c)
  else none

/-- `SpritePixel(S, L, x)`: the first sprite of the selection whose index here is not 0 (R486). -/
def spritePixel (s : State) (l x : Nat) : List SpriteEntry → Option (Rgb × Bool)
  | [] => none
  | e :: rest =>
    match spriteIndex s e l x with
    | none => spritePixel s l x rest
    | some idx => if idx = 0 then spritePixel s l x rest else some (objColour s e idx, e.below)

/-! ### A line (R480, R487) -/

/-- `Hidden(bg_idx, sp_below, bg_above)`, the document's three conjuncts (R487). -/
def hiddenSprite (s : State) (bg : BgPixel) (below : Bool) : Bool :=
  match s.mode with
  | .cgb => s.video.lcdc.bgEn && bg.idx != 0 && below && !bg.above
  | .dmg => bg.idx != 0 && below

/-- The colour of pixel (x, L), for the line's sprites (R480). -/
def linePixel (s : State) (sprites : List SpriteEntry) (l x : Nat) : Rgb :=
  let bg := bgWinPixel s l x
  match spritePixel s l x sprites with
  | some (rgb, below) => if hiddenSprite s bg below then bg.rgb else rgb
  | none => bg.rgb

/-- The pixels of line `l`, from the registers, VRAM, OAM and palettes as they stand (R480). -/
def composeLine (s : State) (l : Nat) : List Rgb :=
  let sprites := selectSprites s l
  (List.range s.params.screenW).map (linePixel s sprites l)

/-- `RenderLine(L)` writes row L of the back buffer (R480). -/
def renderLine (l : Nat) (s : State) : State :=
  s.setVideo (s.video.setBack (s.video.back.setRow s.params l (composeLine s l)))

/-! ### The timing state machine (R453) -/

/-- The end of line 153: the framebuffers swap and line 0 begins (R453). -/
def frameEnd (s : State) : State :=
  enterMode .oamSearch (setLine 0 (s.setVideo { s.video with frontSel := !s.video.frontSel }))

/-- The end of another line: lines 145 to 153 are entered with no mode entry (R453). -/
def nextLine (s : State) : State :=
  let s := setLine (s.video.line + 1) s
  if s.video.line = 144 then enterMode .vblank s
  else if s.video.line < 144 then enterMode .oamSearch s
  else s

/-- The end of a line's 114 cycles. -/
def lineEnd (s : State) : State :=
  let s := s.setVideo { s.video with lineT := 0 }
  if s.video.line = 153 then frameEnd s else nextLine s

/-- One cycle of scanning (R453). -/
def scanStep (s : State) : State :=
  let s := s.setVideo { s.video with lineT := s.video.lineT + 1 }
  let s := if s.video.line < 144 ∧ s.video.lineT = 20 then enterMode .pixelTransfer s else s
  let s := if s.video.line < 144 ∧ s.video.lineT = 63 then enterMode .hblank (renderLine s.video.line s) else s
  if s.video.lineT = 114 then lineEnd s else s

/-- One cycle of the delay after the LCD is switched on; its last one begins line 0 (R462). -/
def delayStep (s : State) : State :=
  let s := s.setVideo { s.video with enableDelay := s.video.enableDelay - 1 }
  if s.video.enableDelay = 0 then enterMode .oamSearch (setLine 0 (s.setVideo { s.video with lineT := 0 })) else s

/-- `VideoStep()`: nothing moves while the LCD is off (R453, R463). -/
def videoStep (s : State) : State :=
  if s.video.lcdc.lcdOn then (if s.video.enableDelay > 0 then delayStep s else scanStep s) else s

end Sys2Proof.Machine
end

