-- ==== Sys2Proof/Machine/Step.lean ====
section
/-! DEFINITION. One step of the machine: the host's turn, then one external tick (`spec/40_cpu_step.md` R170). -/

namespace Sys2Proof.Machine

/-- Goes on unless a fatal error was raised: then the rest of the tick is abandoned (R350). -/
def goOn (o : Out) (f : State → Out) : Out :=
  match o with
  | .next s => if s.fault.isSome then .next s else f s
  | .fault r => .fault r
  | .refused r => .refused r

/-- `FetchExecute()` (R177): the instruction at PC is fetched and run. -/
def fetchExecute (s : State) : Out :=
  match fetch s with
  | .ok i s => exec i s
  | .fatal s => .next s

/-- `CpuStep()` (R171). -/
def cpuStep (s : State) : Out :=
  match cpuPrologue s with
  | .done s => .next s
  | .fetch s => fetchExecute s

/-- The two components after the CPU: Transfer Engine, then Video unit (R170). -/
def peripherals (s : State) : Out :=
  match transferStep s with
  | .ok _ s => .next (videoStep s)
  | .fatal s => .next s

/-- The CPU steps of one external tick: one, or two in double speed (R170, R183). -/
def cpuSteps (s : State) : Out :=
  if s.doubleSpeed then goOn (cpuStep s) cpuStep else cpuStep s

/-- `SystemTick()` (R170). In the fault state it does nothing (R350). -/
def systemTick (s : State) : Out :=
  if s.fault.isSome then .next s else goOn (cpuSteps s) peripherals

/-- One step: the host's moves before the tick, then the tick. In the fault state nothing happens any more (R47, R350). -/
def step (s : State) : Out :=
  if s.fault.isSome then .next s
  else
    match hostTurn s with
    | .ok _ s => systemTick s
    | .fatal s => .next s

/-- The state with an instruction of the opcode table stored where the next step fetches (log entry 14). -/
def State.withFetchWord (s : State) (nbits w : Nat) : State := placeInstr (tableMemory nbits w) s

end Sys2Proof.Machine
end

