-- ==== Sys2Proof/Safety.lean ====
section
/-! DEFINITION. What counts as a safe run, in the terms the statements use: the invariant of the machine, the read of one
byte as an observer sees it, the addresses an instruction stores to, and which reads a store can change. -/

namespace Sys2Proof.Machine

/-- The machine is not stopped by a fatal error (`spec/60_exceptions.md` R350). -/
def State.running (s : State) : Prop := s.fault = none

/-! ### The invariant -/

/-- The mode of the Video unit's table at cycle `t` of line `line` (`spec/63_video.md` R453). -/
def modeOf (line t : Nat) : VideoMode :=
  if 144 ≤ line then .vblank else if t < 20 then .oamSearch else if t < 63 then .pixelTransfer else .hblank

/-- The CPU's part: F[3:0] = 0 (R25), at most 5 pending cycles (R30), the HALT bug armed only with IME = 0 and nothing
pending (R368), and RESET only before any instruction (R61). -/
structure Cpu.Inv (c : Cpu) : Prop where
  flagsLow : c.f &&& 0x0F = 0
  pendingCycles : c.pendingCycles ≤ 5
  haltBug : c.haltBug = true → c.ime = false ∧ c.runState = .running ∧ c.pendingCycles = 0
  reset : c.runState = .reset → c.ime = false ∧ c.haltBug = false ∧ c.pendingCycles = 0

/-- The bank selection's part (R34, R79, R80): `wram_bank` in 1 to 7; in legacy mode banks 0 and 1; the boot ROM mapped only
if one was loaded (R64, R116). -/
structure State.BanksInv (s : State) : Prop where
  wramBank : s.banks.wramBank ≠ 0
  legacy : s.mode = .dmg → s.banks.vramBank = 0 ∧ s.banks.wramBank = 1
  bootRom : s.banks.bootRomEnabled = true → s.bootLoaded = true

/-- The immediate transfer's part (R38, R423): the source page, the two counts, and one byte for each tick after the
first. -/
structure State.OamInv (s : State) : Prop where
  source : lo8 s.oamDma.src = 0
  ticks : s.oamDma.ticks ≤ 161
  copied : s.oamDma.copied ≤ 160
  progress : s.fault = none → s.oamDma.active = true → s.oamDma.ticks ≤ 160 ∧ s.oamDma.copied = s.oamDma.ticks - 1

/-- The gated transfer's part (R39, R430 to R432): while active, a valid block of whole 16-byte units, aligned, not yet
all copied; never active in legacy mode. -/
structure State.HdmaInv (s : State) : Prop where
  legacy : s.mode = .dmg → s.hdma.active = false
  block : s.hdma.active = true → hdmaValid s.hdma.src s.hdma.dst s.hdma.len = true
  aligned : s.hdma.active = true → s.hdma.src &&& 0x000F = 0 ∧ s.hdma.dst &&& 0x000F = 0
  length : s.hdma.active = true → 16 ∣ s.hdma.len ∧ 16 ≤ s.hdma.len ∧ s.hdma.len ≤ 2048
  copied : s.hdma.active = true → s.hdma.copied < s.hdma.len

/-- The Video unit's part (R41, R45, R453, R456, R462, R463, R497). -/
structure State.VideoInv (s : State) : Prop where
  line : s.video.line ≤ 153
  lineT : s.video.lineT ≤ 113
  delay : s.video.enableDelay ≤ 61
  off : s.video.lcdc.lcdOn = false → s.video.line = 0 ∧ s.video.lineT = 0 ∧ s.video.mode = .hblank ∧ s.video.enableDelay = 0
  delayed : 0 < s.video.enableDelay → s.video.line = 0 ∧ s.video.lineT = 0 ∧ s.video.mode = .hblank
  scanning : s.video.lcdc.lcdOn = true → s.video.enableDelay = 0 → s.video.mode = modeOf s.video.line s.video.lineT
  coincidence : s.video.coincidence = s.lyMatch
  bgPal : Bytes.wf 64 s.video.bgPal
  objPal : Bytes.wf 64 s.video.objPal
  fb0 : Frame.wf s.params s.video.fb0
  fb1 : Frame.wf s.params s.video.fb1
  bcps : s.video.bcps &&& 0x40 = 0
  ocps : s.video.ocps &&& 0x40 = 0

/-- The stored bits of the partly stored registers: JOYP[5:4], STAT[6:3] and, in colour mode, KEY1[0] (R100, R108, R114). -/
structure State.IoInv (s : State) : Prop where
  joyp : s.ioRaw 0x00 &&& 0xCF = 0
  stat : s.ioRaw 0x41 &&& 0x87 = 0
  key1 : s.mode = .cgb → s.ioRaw 0x4D &&& 0xFE = 0

/-- The invariant of the machine. -/
structure State.Inv (s : State) : Prop where
  mem : Memory.wf s.mem
  cpu : Cpu.Inv s.cpu
  banks : s.BanksInv
  oamDma : s.OamInv
  hdma : s.HdmaInv
  video : s.VideoInv
  io : s.IoInv

/-! ### Reading one byte -/

/-- What the byte at `a` reads as: the value `BusRead(a)` gives, none where the read raises a fatal error and none where it
gives a free value (an audio register, absent cartridge RAM), which an observer learns nothing from. -/
def State.peek (s : State) (a : Nat) : Option Byte :=
  match busRead a s with
  | .ok v t => if t.freeDraws = s.freeDraws then some v else none
  | .fatal _ => none

/-- Address `a` is a cell of memory: what is written there is what is read there (R76, R87). -/
abbrev State.isMemory (s : State) (a : Nat) : Prop :=
  (0x8000 ≤ a ∧ a ≤ 0xFE9F ∧ (0xA000 ≤ a → a ≤ 0xBFFF → s.cartRamMapped = true)) ∨ (0xFF80 ≤ a ∧ a ≤ 0xFFFE)

/-! ### Where an instruction stores -/

/-- The two addresses a push stores to (R238). -/
def pushAddrs (sp : Word) : List Word := [sp - 1, sp - 2]

/-- The address operand of an instruction of the alternate table that writes back (R294). -/
def prefixedStores (op2 : Byte) (hl : Word) : List Word :=
  if zField op2 = 6 ∧ xField op2 ≠ 1 then [hl] else []

/-- The addresses `i` stores to from the state it executes in, PC past its bytes: the expressions its operation hands to
`BusWrite`. For the bare prefix byte they are those of the instruction its second byte selects. -/
def storeAddrs (i : Instr) (s : State) : List Word :=
  match i with
  | .ld_mBC_A => [s.bc]
  | .ld_mDE_A => [s.de]
  | .ld_mHLi_A | .ld_mHLd_A => [s.hl]
  | .ld_mHL_B | .ld_mHL_C | .ld_mHL_D | .ld_mHL_E | .ld_mHL_H | .ld_mHL_L | .ld_mHL_A => [s.hl]
  | .ld_mHL_d8 _ | .inc_mHL | .dec_mHL => [s.hl]
  | .ld_ma16_A a => [a]
  | .ldh_ma8_A o => [0xFF00 ||| o.setWidth 16]
  | .ld_mC_A => [0xFF00 ||| s.cpu.c.setWidth 16]
  | .ld_ma16_SP a => [a, a + 1]
  | .push_BC | .push_DE | .push_HL | .push_AF => pushAddrs s.cpu.sp
  | .call_a16 _ => pushAddrs s.cpu.sp
  | .rst_00 | .rst_08 | .rst_10 | .rst_18 | .rst_20 | .rst_28 | .rst_30 | .rst_38 => pushAddrs s.cpu.sp
  | .call_NZ_a16 _ => if s.flagZ then [] else pushAddrs s.cpu.sp
  | .call_Z_a16 _ => if s.flagZ then pushAddrs s.cpu.sp else []
  | .call_NC_a16 _ => if s.flagC then [] else pushAddrs s.cpu.sp
  | .call_C_a16 _ => if s.flagC then pushAddrs s.cpu.sp else []
  | .rlc_mHL | .rrc_mHL | .rl_mHL | .rr_mHL | .sla_mHL | .sra_mHL | .swap_mHL | .srl_mHL => [s.hl]
  | .res_0_mHL | .res_1_mHL | .res_2_mHL | .res_3_mHL | .res_4_mHL | .res_5_mHL | .res_6_mHL | .res_7_mHL => [s.hl]
  | .set_0_mHL | .set_1_mHL | .set_2_mHL | .set_3_mHL | .set_4_mHL | .set_5_mHL | .set_6_mHL | .set_7_mHL => [s.hl]
  | .prefix_CB =>
    match busRead16 s.cpu.pc s with
    | .ok op2 _ => prefixedStores op2 s.hl
    | .fatal _ => []
  | _ => []

/-- The addresses of an I/O register, by offset. -/
def isIo (b : Nat) (offs : List Nat) : Bool := offs.any fun o => b == 0xFF00 + o

/-- Which reads a write to I/O offset `off` can change, in each `MODE` (`spec/20_memory.md` section 5): its own address; the
addresses of a bank it selects; the status bits the Video unit derives. A write to LY or to an audio register changes none. -/
def ioReach (m : Mode) (off b : Nat) : Bool :=
  if off = 0x44 ∨ isAudio off then false
  else if off = 0x40 then isIo b [0x40, 0x41, 0x44]
  else if off = 0x45 then isIo b [0x45, 0x41, 0x0F]
  else if off = 0x50 then isIo b [0x50] || decide (b ≤ 0x00FF)
  else if m = .cgb ∧ off = 0x4F then isIo b [0x4F] || decide (0x8000 ≤ b ∧ b ≤ 0x9FFF)
  else if m = .cgb ∧ off = 0x70 then isIo b [0x70] || decide (0xD000 ≤ unEcho b ∧ unEcho b ≤ 0xDFFF)
  else if m = .cgb ∧ (off = 0x68 ∨ off = 0x69) then isIo b [0x68, 0x69]
  else if m = .cgb ∧ (off = 0x6A ∨ off = 0x6B) then isIo b [0x6A, 0x6B]
  else isIo b [off]

/-- Which reads a write to a cartridge ROM address can change: with a bank controller's hook those of the two switchable
windows (R545), else none. -/
def hookReach (h : CartWrite) (b : Nat) : Bool :=
  h == .hook && (decide (0x4000 ≤ b ∧ b ≤ 0x7FFF) || decide (0xA000 ≤ b ∧ b ≤ 0xBFFF))

/-- Which reads a store to `a` can change, by the hook and the `MODE`: that of `a` and of its echo; of a ROM address those
of `hookReach`; of an I/O register those of `ioReach`. -/
def storeReach (h : CartWrite) (m : Mode) (a b : Nat) : Bool :=
  if a ≤ 0x7FFF then hookReach h b
  else if 0xFF00 ≤ a ∧ a ≤ 0xFF7F then ioReach m (a - 0xFF00) b
  else unEcho b == unEcho a

/-! ### What an instruction leaves alone outside the CPU -/

/-- Everything but the CPU, the fault field and the count of free values is as before. -/
structure OutsideKept (s t : State) : Prop where
  params : t.params = s.params
  mode : t.mode = s.mode
  bootLoaded : t.bootLoaded = s.bootLoaded
  cartLoaded : t.cartLoaded = s.cartLoaded
  doubleSpeed : t.doubleSpeed = s.doubleSpeed
  ints : t.ints = s.ints
  banks : t.banks = s.banks
  mem : t.mem = s.mem
  timer : t.timer = s.timer
  oamDma : t.oamDma = s.oamDma
  hdma : t.hdma = s.hdma
  video : t.video = s.video
  buttons : t.buttons = s.buttons
  host : t.host = s.host

/-- What no step of any agent changes (R5, R36, R48): the parameters, the launch facts and the read-only segments. -/
structure FixedKept (s t : State) : Prop where
  params : t.params = s.params
  mode : t.mode = s.mode
  bootLoaded : t.bootLoaded = s.bootLoaded
  cartLoaded : t.cartLoaded = s.cartLoaded
  doubleSpeed : t.doubleSpeed = s.doubleSpeed
  bootRom : t.mem.bootRom = s.mem.bootRom
  cartRom0 : t.mem.cartRom0 = s.mem.cartRom0
  cartRomX : t.mem.cartRomX = s.mem.cartRomX

end Sys2Proof.Machine
end

