-- ==== Sys2Proof/Certificates/Slice0/Obligations.lean ====
section
/-! DEFINITION. The statements, from the numbered rules of `spec/`. An instruction runs from a state whose PC is past the
instruction's bytes (`spec/10_state.md` R23); `setPending (c - 1)` is the charge of its cost c (R181). A bus access that raises
a fatal error ends the instruction as the access left it (R350). -/

open Sys2Proof Sys2Proof.Machine

/-! ### 8-bit loads -/

/-- R200 to R204: `LD r,r'` (cost 1), the loads from and stores to (HL) through the Bus (cost 2), the immediate loads of a register
(cost 2) and of (HL) (cost 3). -/
def Obligations.LoadRegisters : Prop :=
  (
    (∀ (y z : BitVec 3) (rest : List Byte), y ≠ 6 → z ≠ 6 →
      decode (((1 : BitVec 2) ++ y ++ z) :: rest) = .ok (mkLd (.ofField y.toFin) (.ofField z.toFin), rest)) ∧
    ∀ (y z : R8) (s : State), y ≠ .mHL → z ≠ .mHL →
      exec (mkLd y z) s = .next ((s.setReg y (s.reg z)).setPending 0)) ∧
  (
    (∀ (y : BitVec 3) (rest : List Byte), y ≠ 6 →
      decode (((1 : BitVec 2) ++ y ++ (6 : BitVec 3)) :: rest) = .ok (mkLd (.ofField y.toFin) .mHL, rest) ∧
      decode (((1 : BitVec 2) ++ (6 : BitVec 3) ++ y) :: rest) = .ok (mkLd .mHL (.ofField y.toFin), rest)) ∧
    ∀ (r : R8) (s t : State), r ≠ .mHL →
      (∀ v, busRead16 s.hl s = .ok v t → exec (mkLd r .mHL) s = .next ((t.setReg r v).setPending 1)) ∧
      (busRead16 s.hl s = .fatal t → exec (mkLd r .mHL) s = .next t) ∧
      (busWrite16 s.hl (s.reg r) s = .ok () t → exec (mkLd .mHL r) s = .next (t.setPending 1)) ∧
      (busWrite16 s.hl (s.reg r) s = .fatal t → exec (mkLd .mHL r) s = .next t)) ∧
  (
    (∀ (y : BitVec 3) (n : Byte) (rest : List Byte),
      decode (((0 : BitVec 2) ++ y ++ (6 : BitVec 3)) :: n :: rest) = .ok (mkLdImm (.ofField y.toFin) n, rest)) ∧
    ∀ (n : Byte) (s t : State),
      (∀ y : R8, y ≠ .mHL → exec (mkLdImm y n) s = .next ((s.setReg y n).setPending 1)) ∧
      (busWrite16 s.hl n s = .ok () t → exec (.ld_mHL_d8 n) s = .next (t.setPending 2)) ∧
      (busWrite16 s.hl n s = .fatal t → exec (.ld_mHL_d8 n) s = .next t))

/-- R205 to R218: A through BC, DE and HL (cost 2), with HL stepped after the access by the last two pointer forms, and not stepped
when the access raises a fatal error; at an absolute address (cost 4), in the high page by an operand byte (cost 3) and by C
(cost 2). A read in the high page never raises a fatal error. -/
def Obligations.AccumulatorLoadsAndStores : Prop :=
  (
    (∀ rest : List Byte,
      decode (0x0A :: rest) = .ok (.ld_A_mBC, rest) ∧ decode (0x1A :: rest) = .ok (.ld_A_mDE, rest) ∧
      decode (0x2A :: rest) = .ok (.ld_A_mHLi, rest) ∧ decode (0x3A :: rest) = .ok (.ld_A_mHLd, rest) ∧
      decode (0x02 :: rest) = .ok (.ld_mBC_A, rest) ∧ decode (0x12 :: rest) = .ok (.ld_mDE_A, rest) ∧
      decode (0x22 :: rest) = .ok (.ld_mHLi_A, rest) ∧ decode (0x32 :: rest) = .ok (.ld_mHLd_A, rest)) ∧
    ∀ (s t : State),
      (∀ v, busRead16 s.bc s = .ok v t → exec .ld_A_mBC s = .next ((t.setA v).setPending 1)) ∧
      (∀ v, busRead16 s.de s = .ok v t → exec .ld_A_mDE s = .next ((t.setA v).setPending 1)) ∧
      (∀ v, busRead16 s.hl s = .ok v t →
        exec .ld_A_mHLi s = .next (((t.setA v).setHl (s.hl + 1)).setPending 1) ∧
        exec .ld_A_mHLd s = .next (((t.setA v).setHl (s.hl - 1)).setPending 1)) ∧
      (busWrite16 s.bc s.cpu.a s = .ok () t → exec .ld_mBC_A s = .next (t.setPending 1)) ∧
      (busWrite16 s.de s.cpu.a s = .ok () t → exec .ld_mDE_A s = .next (t.setPending 1)) ∧
      (busWrite16 s.hl s.cpu.a s = .ok () t →
        exec .ld_mHLi_A s = .next ((t.setHl (s.hl + 1)).setPending 1) ∧
        exec .ld_mHLd_A s = .next ((t.setHl (s.hl - 1)).setPending 1)) ∧
      (busRead16 s.bc s = .fatal t → exec .ld_A_mBC s = .next t) ∧
      (busRead16 s.de s = .fatal t → exec .ld_A_mDE s = .next t) ∧
      (busRead16 s.hl s = .fatal t → exec .ld_A_mHLi s = .next t ∧ exec .ld_A_mHLd s = .next t) ∧
      (busWrite16 s.bc s.cpu.a s = .fatal t → exec .ld_mBC_A s = .next t) ∧
      (busWrite16 s.de s.cpu.a s = .fatal t → exec .ld_mDE_A s = .next t) ∧
      (busWrite16 s.hl s.cpu.a s = .fatal t → exec .ld_mHLi_A s = .next t ∧ exec .ld_mHLd_A s = .next t)) ∧
  (
    (∀ (lo hi o : Byte) (rest : List Byte),
      decode (0xFA :: lo :: hi :: rest) = .ok (.ld_A_ma16 (hi ++ lo), rest) ∧
      decode (0xEA :: lo :: hi :: rest) = .ok (.ld_ma16_A (hi ++ lo), rest) ∧
      decode (0xF0 :: o :: rest) = .ok (.ldh_A_ma8 o, rest) ∧ decode (0xE0 :: o :: rest) = .ok (.ldh_ma8_A o, rest) ∧
      decode (0xF2 :: rest) = .ok (.ld_A_mC, rest) ∧ decode (0xE2 :: rest) = .ok (.ld_mC_A, rest)) ∧
    ∀ (a : Word) (o : Byte) (s t : State),
      (∀ v, busRead16 a s = .ok v t → exec (.ld_A_ma16 a) s = .next ((t.setA v).setPending 3)) ∧
      (busRead16 a s = .fatal t → exec (.ld_A_ma16 a) s = .next t) ∧
      (busWrite16 a s.cpu.a s = .ok () t → exec (.ld_ma16_A a) s = .next (t.setPending 3)) ∧
      (busWrite16 a s.cpu.a s = .fatal t → exec (.ld_ma16_A a) s = .next t) ∧
      (∀ v, busRead16 (0xFF00 ||| o.setWidth 16) s = .ok v t → exec (.ldh_A_ma8 o) s = .next ((t.setA v).setPending 2)) ∧
      (∃ v u, busRead16 (0xFF00 ||| o.setWidth 16) s = .ok v u) ∧
      (busWrite16 (0xFF00 ||| o.setWidth 16) s.cpu.a s = .ok () t → exec (.ldh_ma8_A o) s = .next (t.setPending 2)) ∧
      (busWrite16 (0xFF00 ||| o.setWidth 16) s.cpu.a s = .fatal t → exec (.ldh_ma8_A o) s = .next t) ∧
      (∀ v, busRead16 (0xFF00 ||| s.cpu.c.setWidth 16) s = .ok v t → exec .ld_A_mC s = .next ((t.setA v).setPending 1)) ∧
      (busWrite16 (0xFF00 ||| s.cpu.c.setWidth 16) s.cpu.a s = .ok () t → exec .ld_mC_A s = .next (t.setPending 1)) ∧
      (busWrite16 (0xFF00 ||| s.cpu.c.setWidth 16) s.cpu.a s = .fatal t → exec .ld_mC_A s = .next t))

/-! ### 16-bit loads and the stack -/

/-- R21, R25: the first-named register of a pair is its high byte, writing a pair writes both halves and nothing else, and
writing AF forces F[3:0] to 0. -/
def Obligations.PairViewsWriteBothHalves : Prop :=
  ∀ (s : State) (v : Word),
    s.bc.toNat = s.cpu.b.toNat * 256 + s.cpu.c.toNat ∧ s.de.toNat = s.cpu.d.toNat * 256 + s.cpu.e.toNat ∧
    s.hl.toNat = s.cpu.h.toNat * 256 + s.cpu.l.toNat ∧ s.af.toNat = s.cpu.a.toNat * 256 + s.cpu.f.toNat ∧
    s.setBc v = { s with cpu := { s.cpu with b := BitVec.ofNat 8 (v.toNat / 256), c := BitVec.ofNat 8 v.toNat } } ∧
    s.setDe v = { s with cpu := { s.cpu with d := BitVec.ofNat 8 (v.toNat / 256), e := BitVec.ofNat 8 v.toNat } } ∧
    s.setHl v = { s with cpu := { s.cpu with h := BitVec.ofNat 8 (v.toNat / 256), l := BitVec.ofNat 8 v.toNat } } ∧
    s.setAf v = { s with cpu := { s.cpu with a := BitVec.ofNat 8 (v.toNat / 256), f := BitVec.ofNat 8 v.toNat &&& 0xF0 } } ∧
    (s.setBc v).bc = v ∧ (s.setDe v).de = v ∧ (s.setHl v).hl = v ∧ (s.setAf v).cpu.f &&& 0x0F = 0

/-- R230, R232, R281, R282: a pair from an immediate (cost 3), SP from HL (cost 2), a pair plus or minus one (cost 2), no
flag written. -/
def Obligations.PairLoadIncrementDecrement : Prop :=
  (∀ (p : BitVec 2) (lo hi : Byte) (rest : List Byte),
    decode (((0 : BitVec 2) ++ p ++ (1 : BitVec 4)) :: lo :: hi :: rest) = .ok (mkLdPairImm (.ofField p.toFin) (hi ++ lo), rest) ∧
    decode (((0 : BitVec 2) ++ p ++ (3 : BitVec 4)) :: rest) = .ok (mkInc16 (.ofField p.toFin), rest) ∧
    decode (((0 : BitVec 2) ++ p ++ (11 : BitVec 4)) :: rest) = .ok (mkDec16 (.ofField p.toFin), rest) ∧
    decode (0xF9 :: rest) = .ok (.ld_SP_HL, rest)) ∧
  ∀ (n : Word) (s : State),
    exec (mkLdPairImm .bc n) s = .next ((s.setBc n).setPending 2) ∧
    exec (mkLdPairImm .de n) s = .next ((s.setDe n).setPending 2) ∧
    exec (mkLdPairImm .hl n) s = .next ((s.setHl n).setPending 2) ∧
    exec (mkLdPairImm .sp n) s = .next ((s.setSp n).setPending 2) ∧
    exec .ld_SP_HL s = .next ((s.setSp s.hl).setPending 1) ∧
    exec (mkInc16 .bc) s = .next ((s.setBc (s.bc + 1)).setPending 1) ∧
    exec (mkInc16 .de) s = .next ((s.setDe (s.de + 1)).setPending 1) ∧
    exec (mkInc16 .hl) s = .next ((s.setHl (s.hl + 1)).setPending 1) ∧
    exec (mkInc16 .sp) s = .next ((s.setSp (s.cpu.sp + 1)).setPending 1) ∧
    exec (mkDec16 .bc) s = .next ((s.setBc (s.bc - 1)).setPending 1) ∧
    exec (mkDec16 .de) s = .next ((s.setDe (s.de - 1)).setPending 1) ∧
    exec (mkDec16 .hl) s = .next ((s.setHl (s.hl - 1)).setPending 1) ∧
    exec (mkDec16 .sp) s = .next ((s.setSp (s.cpu.sp - 1)).setPending 1)

/-- R231: `LD (a16),SP` writes the low byte of SP at a and then the high byte at a + 1, modulo 0x10000, at cost 5; if the
first write raises a fatal error the second does not happen. -/
def Obligations.StoreStackPointer : Prop :=
  (∀ (lo hi : Byte) (rest : List Byte), decode (0x08 :: lo :: hi :: rest) = .ok (.ld_ma16_SP (hi ++ lo), rest)) ∧
  ∀ (a : Word) (s t u : State),
    (busWrite16 a (BitVec.ofNat 8 s.cpu.sp.toNat) s = .ok () t →
      (busWrite16 (a + 1) (BitVec.ofNat 8 (s.cpu.sp.toNat / 256)) t = .ok () u →
        exec (.ld_ma16_SP a) s = .next (u.setPending 4)) ∧
      (busWrite16 (a + 1) (BitVec.ofNat 8 (s.cpu.sp.toNat / 256)) t = .fatal u → exec (.ld_ma16_SP a) s = .next u)) ∧
    (busWrite16 a (BitVec.ofNat 8 s.cpu.sp.toNat) s = .fatal t → exec (.ld_ma16_SP a) s = .next t)

/-- R233, R283: SP plus a signed byte, into HL (cost 3) and into SP (cost 4); Z and N are cleared, H and C are those of the
unsigned sum of the byte and the low byte of SP. -/
def Obligations.StackPointerPlusDisplacement : Prop :=
  (∀ (e : Byte) (rest : List Byte),
    decode (0xF8 :: e :: rest) = .ok (.ld_HL_SPe8 e, rest) ∧ decode (0xE8 :: e :: rest) = .ok (.add_SP_e8 e, rest)) ∧
  ∀ (e : Byte) (s : State),
    let sum : Word := BitVec.ofInt 16 (s.cpu.sp.toNat + e.toInt)
    let f : Byte := BitVec.ofNat 8 (
      (if s.cpu.sp.toNat % 16 + e.toNat % 16 > 15 then 0x20 else 0) +
      (if s.cpu.sp.toNat % 256 + e.toNat > 255 then 0x10 else 0))
    exec (.ld_HL_SPe8 e) s = .next ({ s.setHl sum with cpu := { (s.setHl sum).cpu with f := f, pendingCycles := 2 } }) ∧
    exec (.add_SP_e8 e) s = .next ({ s with cpu := { s.cpu with sp := sum, f := f, pendingCycles := 3 } })

/-- R234 to R239: `Push16` writes the high byte at SP − 1, then the low byte at SP − 2; `Pop16` reads the low byte at SP, then
the high byte at SP + 1; the first access that raises a fatal error ends them. PUSH costs 4, POP 3; `POP AF` drops bits 3:0
of the popped byte. -/
def Obligations.PushAndPop : Prop :=
  (
    ∀ (v : Word) (s t : State),
      (busWrite16 (s.cpu.sp - 1) (BitVec.ofNat 8 (v.toNat / 256)) (s.setSp (s.cpu.sp - 1)) = .ok () t →
        push16 v s = busWrite16 (s.cpu.sp - 2) (BitVec.ofNat 8 v.toNat) (t.setSp (s.cpu.sp - 2))) ∧
      (busWrite16 (s.cpu.sp - 1) (BitVec.ofNat 8 (v.toNat / 256)) (s.setSp (s.cpu.sp - 1)) = .fatal t →
        push16 v s = .fatal t) ∧
      (∀ lo, busRead16 s.cpu.sp s = .ok lo t →
        (∀ hi u, busRead16 (s.cpu.sp + 1) (t.setSp (s.cpu.sp + 1)) = .ok hi u →
          pop16 s = .ok (BitVec.ofNat 16 (hi.toNat * 256 + lo.toNat)) (u.setSp (s.cpu.sp + 2))) ∧
        (∀ u, busRead16 (s.cpu.sp + 1) (t.setSp (s.cpu.sp + 1)) = .fatal u → pop16 s = .fatal u)) ∧
      (busRead16 s.cpu.sp s = .fatal t → pop16 s = .fatal t)) ∧
  (
    (∀ (p : BitVec 2) (rest : List Byte),
      decode (((3 : BitVec 2) ++ p ++ (5 : BitVec 4)) :: rest) = .ok (mkPush (.ofField p.toFin), rest) ∧
      decode (((3 : BitVec 2) ++ p ++ (1 : BitVec 4)) :: rest) = .ok (mkPop (.ofField p.toFin), rest)) ∧
    ∀ (s t : State) (p : R16Stk) (v : Word),
      (push16 (match p with | .bc => s.bc | .de => s.de | .hl => s.hl | .af => s.af) s = .ok () t →
        exec (mkPush p) s = .next (t.setPending 3)) ∧
      (push16 (match p with | .bc => s.bc | .de => s.de | .hl => s.hl | .af => s.af) s = .fatal t →
        exec (mkPush p) s = .next t) ∧
      (pop16 s = .ok v t →
        exec (mkPop p) s = .next ((match p with
          | .bc => t.setBc v
          | .de => t.setDe v
          | .hl => t.setHl v
          | .af => (t.setA (BitVec.ofNat 8 (v.toNat / 256))).setF (BitVec.ofNat 8 v.toNat)).setPending 2)) ∧
      (pop16 s = .fatal t → exec (mkPop p) s = .next t))

/-- R88, R238, R239: a push onto two memory cells, wherever they are (VRAM, mapped cartridge RAM, work RAM and its echo, OAM,
HRAM), and the pop after it give the word and the state's SP back, and the low byte stands at the new SP, the high byte above
it. -/
def Obligations.PushThenPopReturnsTheWord : Prop :=
  ∀ (v : Word) (s t : State), Memory.wf s.mem → s.BanksInv →
    s.isMemory (s.cpu.sp - 1).toNat → s.isMemory (s.cpu.sp - 2).toNat →
    push16 v s = .ok () t →
    t.peek (s.cpu.sp - 2).toNat = some (BitVec.ofNat 8 v.toNat) ∧
    t.peek (s.cpu.sp - 1).toNat = some (BitVec.ofNat 8 (v.toNat / 256)) ∧
    t.cpu.sp = s.cpu.sp - 2 ∧ pop16 t = .ok v (t.setSp s.cpu.sp)

/-! ### 8-bit arithmetic and logic -/

/-- R267: the three operand forms of the eight accumulator operations, each with its cost; `alu` applied to A and the operand
read, which the next two statements give. -/
def Obligations.AccumulatorOperandForms : Prop :=
  (∀ (y z : BitVec 3) (n : Byte) (rest : List Byte),
    decode (((2 : BitVec 2) ++ y ++ z) :: rest) = .ok (mkAlu (.ofField y.toFin) (.ofField z.toFin), rest) ∧
    decode (((3 : BitVec 2) ++ y ++ (6 : BitVec 3)) :: n :: rest) = .ok (mkAluImm (.ofField y.toFin) n, rest)) ∧
  ∀ (op : AluOp) (z : R8) (n x : Byte) (s t : State),
    (z ≠ .mHL → exec (mkAlu op z) s = .next ((s.alu op (s.reg z)).setPending 0)) ∧
    (busRead16 s.hl s = .ok x t → exec (mkAlu op .mHL) s = .next ((t.alu op x).setPending 1)) ∧
    (busRead16 s.hl s = .fatal t → exec (mkAlu op .mHL) s = .next t) ∧
    exec (mkAluImm op n) s = .next ((s.alu op n).setPending 1)

/-- R251 to R258: ADD, ADC, SUB, SBC and CP on whole numbers, then narrowed; AND, XOR and OR bit by bit, with H = 1 for AND
only and N = C = 0. A and F as given, and nothing else changes. -/
def Obligations.AccumulatorOperations : Prop :=
  (
    ∀ (s : State) (x : Byte),
      let a := s.cpu.a.toNat
      let y := x.toNat
      let c := if s.cpu.f.getLsbD 4 then 1 else 0
      let flags (z n h cy : Prop) [Decidable z] [Decidable n] [Decidable h] [Decidable cy] : Byte :=
        BitVec.ofNat 8 ((if z then 0x80 else 0) + (if n then 0x40 else 0) + (if h then 0x20 else 0) + (if cy then 0x10 else 0))
      let result (r : Nat) (f : Byte) : State := { s with cpu := { s.cpu with a := BitVec.ofNat 8 r, f := f } }
      s.alu .add x = result (a + y) (flags ((a + y) % 256 = 0) False (a % 16 + y % 16 > 15) (a + y > 255)) ∧
      s.alu .adc x = result (a + y + c)
        (flags ((a + y + c) % 256 = 0) False (a % 16 + y % 16 + c > 15) (a + y + c > 255)) ∧
      s.alu .sub x = result (a + 256 - y) (flags ((a + 256 - y) % 256 = 0) True (a % 16 < y % 16) (a < y)) ∧
      s.alu .sbc x = result (a + 512 - y - c)
        (flags ((a + 512 - y - c) % 256 = 0) True (a % 16 < y % 16 + c) (a < y + c)) ∧
      s.alu .cp x = result a (flags (a = y) True (a % 16 < y % 16) (a < y))) ∧
  (
    ∀ (s : State) (op : AluOp) (x : Byte), op = .and ∨ op = .xor ∨ op = .or →
      (∀ k : Nat, k < 8 → (s.alu op x).cpu.a.getLsbD k =
        (match op with
          | .and => s.cpu.a.getLsbD k && x.getLsbD k
          | .xor => s.cpu.a.getLsbD k != x.getLsbD k
          | _ => s.cpu.a.getLsbD k || x.getLsbD k)) ∧
      (s.alu op x).cpu.f = BitVec.ofNat 8
        ((if (s.alu op x).cpu.a = 0 then 0x80 else 0) + (if op = .and then 0x20 else 0)) ∧
      s.alu op x = { s with cpu := { s.cpu with a := (s.alu op x).cpu.a, f := (s.alu op x).cpu.f } })

/-- R259 to R262: INC and DEC of a register (cost 1) and of (HL) (cost 3, one read and then one write): Z, N and H from the
operand, C kept. A fatal write comes after H (R350). -/
def Obligations.IncrementDecrementByte : Prop :=
  (∀ (y : BitVec 3) (rest : List Byte),
    decode (((0 : BitVec 2) ++ y ++ (4 : BitVec 3)) :: rest) = .ok (mkInc8 (.ofField y.toFin), rest) ∧
    decode (((0 : BitVec 2) ++ y ++ (5 : BitVec 3)) :: rest) = .ok (mkDec8 (.ofField y.toFin), rest)) ∧
  ∀ s : State,
    let incF (v : Byte) : Byte := BitVec.ofNat 8
      ((if v = 0xFF then 0x80 else 0) + (if v.toNat % 16 = 15 then 0x20 else 0) + (if s.cpu.f.getLsbD 4 then 0x10 else 0))
    let decF (v : Byte) : Byte := BitVec.ofNat 8
      ((if v = 0x01 then 0x80 else 0) + 0x40 + (if v.toNat % 16 = 0 then 0x20 else 0) +
        (if s.cpu.f.getLsbD 4 then 0x10 else 0))
    (∀ y : R8, y ≠ .mHL →
      exec (mkInc8 y) s = .next (((s.setReg y (s.reg y + 1)).setF (incF (s.reg y))).setPending 0) ∧
      exec (mkDec8 y) s = .next (((s.setReg y (s.reg y - 1)).setF (decF (s.reg y))).setPending 0)) ∧
    (∀ (v : Byte) (t u : State), busRead16 s.hl s = .ok v t →
      (busWrite16 s.hl (v + 1) t = .ok () u → exec .inc_mHL s = .next ((u.setF (incF v)).setPending 2)) ∧
      (busWrite16 s.hl (v + 1) t = .fatal u → exec .inc_mHL s =
        .next (u.setF ((s.cpu.f &&& 0xD0) ||| (if v.toNat % 16 = 15 then 0x20 else 0x00)))) ∧
      (busWrite16 s.hl (v - 1) t = .ok () u → exec .dec_mHL s = .next ((u.setF (decF v)).setPending 2)) ∧
      (busWrite16 s.hl (v - 1) t = .fatal u → exec .dec_mHL s =
        .next (u.setF ((s.cpu.f &&& 0xD0) ||| (if v.toNat % 16 = 0 then 0x20 else 0x00))))) ∧
    (∀ t : State, busRead16 s.hl s = .fatal t → exec .inc_mHL s = .next t ∧ exec .dec_mHL s = .next t)

/-- R263 to R266: DAA, as the rule's pseudocode computes it on whole numbers, and CPL, SCF and CCF, all at cost 1. -/
def Obligations.AccumulatorAdjustments : Prop :=
  (
    (∀ rest : List Byte, decode (0x27 :: rest) = .ok (.daa, rest)) ∧
    ∀ s : State,
      let a := s.cpu.a.toNat
      let n := s.cpu.f.getLsbD 6
      let h := s.cpu.f.getLsbD 5
      let c := s.cpu.f.getLsbD 4
      let adj := (if h = true ∨ (n = false ∧ a % 16 > 9) then 0x06 else 0) + (if c = true ∨ (n = false ∧ a > 0x99) then 0x60 else 0)
      let r := if n then (a + 256 - adj) % 256 else (a + adj) % 256
      exec .daa s = .next { s with cpu := { s.cpu with
        a := BitVec.ofNat 8 r
        f := BitVec.ofNat 8 ((if r = 0 then 0x80 else 0) + (if n then 0x40 else 0) +
          (if c = true ∨ (n = false ∧ a > 0x99) then 0x10 else 0))
        pendingCycles := 0 } }) ∧
  (
    (∀ rest : List Byte, decode (0x2F :: rest) = .ok (.cpl, rest) ∧ decode (0x37 :: rest) = .ok (.scf, rest) ∧
      decode (0x3F :: rest) = .ok (.ccf, rest)) ∧
    ∀ s : State,
      exec .cpl s = .next { s with cpu := { s.cpu with
        a := BitVec.ofNat 8 (255 - s.cpu.a.toNat), f := (s.cpu.f &&& 0x90) ||| 0x60, pendingCycles := 0 } } ∧
      exec .scf s = .next { s with cpu := { s.cpu with f := (s.cpu.f &&& 0x80) ||| 0x10, pendingCycles := 0 } } ∧
      exec .ccf s = .next { s with cpu := { s.cpu with
        f := (s.cpu.f &&& 0x80) ||| (if s.cpu.f.getLsbD 4 then 0x00 else 0x10), pendingCycles := 0 } })

/-- R280: `ADD HL,rr`, at cost 2: H and C are the carries out of bits 11 and 15, N is cleared, Z kept. -/
def Obligations.AddPairToHl : Prop :=
  (∀ (p : BitVec 2) (rest : List Byte),
    decode (((0 : BitVec 2) ++ p ++ (9 : BitVec 4)) :: rest) = .ok (mkAddHl (.ofField p.toFin), rest)) ∧
  ∀ (s : State) (p : R16),
    let x : Nat := match p with
      | .bc => s.cpu.b.toNat * 256 + s.cpu.c.toNat
      | .de => s.cpu.d.toNat * 256 + s.cpu.e.toNat
      | .hl => s.cpu.h.toNat * 256 + s.cpu.l.toNat
      | .sp => s.cpu.sp.toNat
    let hl := s.cpu.h.toNat * 256 + s.cpu.l.toNat
    exec (mkAddHl p) s = .next { s with cpu := { s.cpu with
      h := BitVec.ofNat 8 ((hl + x) / 256)
      l := BitVec.ofNat 8 (hl + x)
      f := (s.cpu.f &&& 0x80) ||| (if hl % 4096 + x % 4096 > 4095 then 0x20 else 0x00) |||
        (if hl + x > 65535 then 0x10 else 0x00)
      pendingCycles := 1 } }

/-! ### Rotates, shifts and bits -/

/-- R290 to R293, R295 to R302: the rotates of A, at cost 1, clear Z; the eight of the alternate table, of a register (cost 2)
and of (HL) (cost 4, one read and then one write), set it from the result. C takes the bit shifted out, N = H = 0. -/
def Obligations.RotatesAndShifts : Prop :=
  (
    (∀ rest : List Byte, decode (0x07 :: rest) = .ok (.rlca, rest) ∧ decode (0x0F :: rest) = .ok (.rrca, rest) ∧
      decode (0x17 :: rest) = .ok (.rla, rest) ∧ decode (0x1F :: rest) = .ok (.rra, rest)) ∧
    ∀ s : State,
      let a := s.cpu.a.toNat
      let c := if s.cpu.f.getLsbD 4 then 1 else 0
      let result (r cy : Nat) : State :=
        { s with cpu := { s.cpu with a := BitVec.ofNat 8 r, f := BitVec.ofNat 8 (16 * cy), pendingCycles := 0 } }
      exec .rlca s = .next (result (2 * a + a / 128) (a / 128)) ∧
      exec .rrca s = .next (result (a / 2 + 128 * (a % 2)) (a % 2)) ∧
      exec .rla s = .next (result (2 * a + c) (a / 128)) ∧
      exec .rra s = .next (result (a / 2 + 128 * c) (a % 2))) ∧
  (
    (∀ (y z : BitVec 3) (rest : List Byte),
      decode (0xCB :: ((0 : BitVec 2) ++ y ++ z) :: rest) = .ok (mkShift (.ofField y.toFin) (.ofField z.toFin), rest)) ∧
    ∀ (op : ShiftOp) (s : State),
      let cin := if s.cpu.f.getLsbD 4 then 1 else 0
      let res (v : Byte) : Nat := match op with
        | .rlc => 2 * v.toNat + v.toNat / 128
        | .rrc => v.toNat / 2 + 128 * (v.toNat % 2)
        | .rl => 2 * v.toNat + cin
        | .rr => v.toNat / 2 + 128 * cin
        | .sla => 2 * v.toNat
        | .sra => v.toNat / 2 + 128 * (v.toNat / 128)
        | .swap => 16 * v.toNat + v.toNat / 16
        | .srl => v.toNat / 2
      let carry (v : Byte) : Nat := match op with
        | .rlc | .rl | .sla => v.toNat / 128
        | .swap => 0
        | .rrc | .rr | .sra | .srl => v.toNat % 2
      let flags (v : Byte) : Byte := BitVec.ofNat 8 ((if res v % 256 = 0 then 0x80 else 0) + 16 * carry v)
      (∀ z : R8, z ≠ .mHL → exec (mkShift op z) s =
        .next (((s.setReg z (BitVec.ofNat 8 (res (s.reg z)))).setF (flags (s.reg z))).setPending 1)) ∧
      (∀ (v : Byte) (t u : State), busRead16 s.hl s = .ok v t →
        (busWrite16 s.hl (BitVec.ofNat 8 (res v)) t = .ok () u →
          exec (mkShift op .mHL) s = .next ((u.setF (flags v)).setPending 3)) ∧
        (busWrite16 s.hl (BitVec.ofNat 8 (res v)) t = .fatal u → exec (mkShift op .mHL) s = .next u)) ∧
      (∀ t : State, busRead16 s.hl s = .fatal t → exec (mkShift op .mHL) s = .next t))

/-- R303 to R305: BIT tests one bit of a register (cost 2) or of (HL) (cost 3): Z its complement, N = 0, H = 1, C kept, nothing
written back. RES and SET change one bit of a register (cost 2) or of (HL) (cost 4, written back even when unchanged) and no flag. -/
def Obligations.BitInstructions : Prop :=
  (
    (∀ (y z : BitVec 3) (rest : List Byte),
      decode (0xCB :: ((1 : BitVec 2) ++ y ++ z) :: rest) = .ok (mkBit y.toFin (.ofField z.toFin), rest)) ∧
    ∀ (b : Fin 8) (s : State),
      let flags (v : Byte) : Byte :=
        (if v.toNat / 2 ^ b.val % 2 = 0 then 0x80 else 0x00) ||| 0x20 ||| (s.cpu.f &&& 0x10)
      (∀ z : R8, z ≠ .mHL → exec (mkBit b z) s = .next ((s.setF (flags (s.reg z))).setPending 1)) ∧
      (∀ (v : Byte) (t : State), busRead16 s.hl s = .ok v t →
        exec (mkBit b .mHL) s = .next ((t.setF (flags v)).setPending 2)) ∧
      (∀ t : State, busRead16 s.hl s = .fatal t → exec (mkBit b .mHL) s = .next t)) ∧
  (
    (∀ (y z : BitVec 3) (rest : List Byte),
      decode (0xCB :: ((2 : BitVec 2) ++ y ++ z) :: rest) = .ok (mkRes y.toFin (.ofField z.toFin), rest) ∧
      decode (0xCB :: ((3 : BitVec 2) ++ y ++ z) :: rest) = .ok (mkSet y.toFin (.ofField z.toFin), rest)) ∧
    ∀ (b : Fin 8) (s : State),
      let res (v : Byte) : Byte := BitVec.ofNat 8 (v.toNat - 2 ^ b.val * (v.toNat / 2 ^ b.val % 2))
      let set (v : Byte) : Byte := BitVec.ofNat 8 (v.toNat + 2 ^ b.val * (1 - v.toNat / 2 ^ b.val % 2))
      (∀ z : R8, z ≠ .mHL →
        exec (mkRes b z) s = .next ((s.setReg z (res (s.reg z))).setPending 1) ∧
        exec (mkSet b z) s = .next ((s.setReg z (set (s.reg z))).setPending 1)) ∧
      (∀ (v : Byte) (t u : State), busRead16 s.hl s = .ok v t →
        (busWrite16 s.hl (res v) t = .ok () u → exec (mkRes b .mHL) s = .next (u.setPending 3)) ∧
        (busWrite16 s.hl (res v) t = .fatal u → exec (mkRes b .mHL) s = .next u) ∧
        (busWrite16 s.hl (set v) t = .ok () u → exec (mkSet b .mHL) s = .next (u.setPending 3)) ∧
        (busWrite16 s.hl (set v) t = .fatal u → exec (mkSet b .mHL) s = .next u)) ∧
      (∀ t : State, busRead16 s.hl s = .fatal t → exec (mkRes b .mHL) s = .next t ∧ exec (mkSet b .mHL) s = .next t))

/-- R294, R341, R179: the prefix byte fetches the second byte at PC and runs the instruction of the alternate table that the
byte selects, PC past it, at the alternate table's own cost plus one. That a lone prefix byte decodes to an instruction of its
own, `prefix_CB`, is the model's choice (log entry 12), no rule of the spec. -/
def Obligations.PrefixByteRunsAlternateTable : Prop :=
  (∀ (op2 : Byte) (rest : List Byte), decode (0xCB :: op2 :: rest) = .ok (decodePrefixed op2, rest)) ∧
  decode [0xCB] = .ok (.prefix_CB, []) ∧
  (∀ (op2 : Byte) (s t : State), busRead16 s.cpu.pc s = .ok op2 t →
    ∃ u, exec .prefix_CB s = .next u ∧ exec (decodePrefixed op2) (t.setPc (s.cpu.pc + 1)) = .next u) ∧
  (∀ s t : State, busRead16 s.cpu.pc s = .fatal t → exec .prefix_CB s = .next t) ∧
  (∀ (op2 : Byte) (s : State), exec (decodePrefixed op2) s =
    match execPrefixed op2 s with
    | .ok cost t => .next (t.setPending cost)
    | .fatal t => .next t)

/-! ### Control flow -/

/-- R320 to R325: jumps. The condition decides, PC takes the target or stays past the instruction, nothing else changes; the
cost differs when a conditional jump is not taken. -/
def Obligations.JumpsSetPc : Prop :=
  (∀ (cc : BitVec 2) (lo hi e : Byte) (rest : List Byte),
    decode (0xC3 :: lo :: hi :: rest) = .ok (.jp_a16 (hi ++ lo), rest) ∧
    decode (((6 : BitVec 3) ++ cc ++ (2 : BitVec 3)) :: lo :: hi :: rest) = .ok (mkJpCc (.ofField cc.toFin) (hi ++ lo), rest) ∧
    decode (0xE9 :: rest) = .ok (.jp_HL, rest) ∧ decode (0x18 :: e :: rest) = .ok (.jr_e8 e, rest) ∧
    decode (((1 : BitVec 3) ++ cc ++ (0 : BitVec 3)) :: e :: rest) = .ok (mkJrCc (.ofField cc.toFin) e, rest)) ∧
  ∀ (cc : Cond) (a : Word) (e : Byte) (s : State),
    let holds : Bool := match cc with
      | .nz => !s.cpu.f.getLsbD 7
      | .z => s.cpu.f.getLsbD 7
      | .nc => !s.cpu.f.getLsbD 4
      | .c => s.cpu.f.getLsbD 4
    let target : Word := BitVec.ofInt 16 (s.cpu.pc.toNat + e.toInt)
    exec (.jp_a16 a) s = .next ((s.setPc a).setPending 3) ∧
    exec .jp_HL s = .next ((s.setPc s.hl).setPending 0) ∧
    exec (.jr_e8 e) s = .next ((s.setPc target).setPending 2) ∧
    exec (mkJpCc cc a) s = .next (if holds then (s.setPc a).setPending 3 else s.setPending 2) ∧
    exec (mkJrCc cc e) s = .next (if holds then (s.setPc target).setPending 2 else s.setPending 1)

/-- R326 to R331: CALL and RST push PC and go to the target; RET, RET cc and RETI pop PC, and RETI also sets IME; a conditional
form not taken changes nothing, at cost 3 for a call and 2 for a return. -/
def Obligations.CallsAndReturns : Prop :=
  (
    (∀ (cc : BitVec 2) (t : BitVec 3) (lo hi : Byte) (rest : List Byte),
      decode (0xCD :: lo :: hi :: rest) = .ok (.call_a16 (hi ++ lo), rest) ∧
      decode (((6 : BitVec 3) ++ cc ++ (4 : BitVec 3)) :: lo :: hi :: rest) = .ok (mkCallCc (.ofField cc.toFin) (hi ++ lo), rest) ∧
      decode (((3 : BitVec 2) ++ t ++ (7 : BitVec 3)) :: rest) = .ok (mkRst t.toFin, rest)) ∧
    ∀ (cc : Cond) (k : Fin 8) (a : Word) (s t : State),
      let holds : Bool := match cc with
        | .nz => !s.cpu.f.getLsbD 7
        | .z => s.cpu.f.getLsbD 7
        | .nc => !s.cpu.f.getLsbD 4
        | .c => s.cpu.f.getLsbD 4
      (holds = false → exec (mkCallCc cc a) s = .next (s.setPending 2)) ∧
      (push16 s.cpu.pc s = .ok () t →
        exec (.call_a16 a) s = .next ((t.setPc a).setPending 5) ∧
        exec (mkRst k) s = .next ((t.setPc (BitVec.ofNat 16 (8 * k.val))).setPending 3) ∧
        (holds = true → exec (mkCallCc cc a) s = .next ((t.setPc a).setPending 5))) ∧
      (push16 s.cpu.pc s = .fatal t →
        exec (.call_a16 a) s = .next t ∧ exec (mkRst k) s = .next t ∧ (holds = true → exec (mkCallCc cc a) s = .next t))) ∧
  (
    (∀ (cc : BitVec 2) (rest : List Byte),
      decode (0xC9 :: rest) = .ok (.ret, rest) ∧ decode (0xD9 :: rest) = .ok (.reti, rest) ∧
      decode (((6 : BitVec 3) ++ cc ++ (0 : BitVec 3)) :: rest) = .ok (mkRetCc (.ofField cc.toFin), rest)) ∧
    ∀ (cc : Cond) (v : Word) (s t : State),
      let holds : Bool := match cc with
        | .nz => !s.cpu.f.getLsbD 7
        | .z => s.cpu.f.getLsbD 7
        | .nc => !s.cpu.f.getLsbD 4
        | .c => s.cpu.f.getLsbD 4
      (holds = false → exec (mkRetCc cc) s = .next (s.setPending 1)) ∧
      (pop16 s = .ok v t →
        exec .ret s = .next ((t.setPc v).setPending 3) ∧
        exec .reti s = .next (((t.setPc v).setIme true).setPending 3) ∧
        (holds = true → exec (mkRetCc cc) s = .next ((t.setPc v).setPending 4))) ∧
      (pop16 s = .fatal t → exec .ret s = .next t ∧ exec .reti s = .next t ∧ (holds = true → exec (mkRetCc cc) s = .next t)))

/-! ### System instructions -/

/-- R340, R342 to R345: NOP, STOP, DI and EI, at cost 1, DI and EI at once; HALT, at cost 1: HALTED, unless IME is 0 and a
source is pending and enabled; then `cpu_state` stays and the HALT bug is armed. -/
def Obligations.SystemInstructions : Prop :=
  (
    (∀ (pad : Byte) (rest : List Byte),
      decode (0x00 :: rest) = .ok (.nop, rest) ∧ decode (0x10 :: pad :: rest) = .ok (.stop pad, rest) ∧
      decode (0xF3 :: rest) = .ok (.di, rest) ∧ decode (0xFB :: rest) = .ok (.ei, rest)) ∧
    ∀ (pad : Byte) (s : State),
      exec .nop s = .next (s.setPending 0) ∧
      exec (.stop pad) s = .next ((s.setRunState .stopped).setPending 0) ∧
      exec .di s = .next ((s.setIme false).setPending 0) ∧
      exec .ei s = .next ((s.setIme true).setPending 0)) ∧
  (
    (∀ rest : List Byte, decode (0x76 :: rest) = .ok (.halt, rest)) ∧
    ∀ s : State,
      (s.cpu.ime = true ∨ (∀ k, s.ints.enabled.getLsbD k = false ∨ s.ints.pending.getLsbD k = false) →
        exec .halt s = .next ((s.setRunState .halted).setPending 0)) ∧
      (s.cpu.ime = false → (∃ k, s.ints.enabled.getLsbD k = true ∧ s.ints.pending.getLsbD k = true) →
        exec .halt s = .next ((s.setHaltBug true).setPending 0)))

/-- R159, R346, R180: the eleven unknown bytes decode to the unknown opcode, alone; no other first byte does; running one
raises `UnknownOpcode` with the byte and the address it was fetched from, and changes nothing else. -/
def Obligations.UnknownOpcodesAreFatal : Prop :=
  (∀ (op : Byte) (rest : List Byte),
    decode (op :: rest) = .ok (.unknown op, rest) ↔
      op ∈ ([0xD3, 0xDB, 0xDD, 0xE3, 0xE4, 0xEB, 0xEC, 0xED, 0xF4, 0xFC, 0xFD] : List Byte)) ∧
  (∀ (op : Byte) (s : State), exec (.unknown op) s = .next (s.setFault (.unknownOpcode op s.cpu.opcodeAddr))) ∧
  ∀ (op : Byte) (s : State), busRead16 s.cpu.pc s = .ok op s → s.cpu.haltBug = false →
    fetchOpcode s = .ok op ((s.setOpcodeAddr s.cpu.pc).setPc (s.cpu.pc + 1))

/-- R181, R350: no instruction stops the model: from every state every instruction answers a next state. Either it has
completed, with no fault raised and at most 5 cycles left to wait (R30), or a fatal error ended it: the fault is set (log entry
2) and no cost is charged. -/
def Obligations.EveryInstructionAnswersNext : Prop :=
  ∀ (i : Instr) (s : State), ∃ t, exec i s = .next t ∧
    ((t.fault = s.fault ∧ t.cpu.pendingCycles ≤ 5) ∨ (t.fault ≠ none ∧ t.cpu.pendingCycles = s.cpu.pendingCycles))

/-! ### Frames -/

/-- An instruction that stores nothing (`storeAddrs` is empty) changes nothing outside the CPU, so every byte of memory
reads as before. -/
def Obligations.NonStoringFrame : Prop :=
  ∀ (i : Instr) (s t : State), storeAddrs i s = [] → exec i s = .next t →
    OutsideKept s t ∧ ∀ a, t.peek a = s.peek a

/-- An instruction that stores: every byte reads as before except the bytes at the addresses stored to; where one is an I/O
register, the reads the register decides; where one is a ROM address and a bank controller's hook takes the write, the two windows
it moves, 0x4000 to 0x7FFF and 0xA000 to 0xBFFF (R78, R545; log entry 8): `storeReach` says which. The premises are parts of the invariant `State.Inv`: with
`wram_bank` = 0, which no run reaches, 0xC000 and 0xD000 would be one cell. -/
def Obligations.StoringFrame : Prop :=
  ∀ (i : Instr) (s t : State), Memory.wf s.mem → s.BanksInv → exec i s = .next t →
    ∀ b, (∀ a ∈ storeAddrs i s, storeReach s.params.cartWrite s.mode a.toNat b = false) → t.peek b = s.peek b

/-- R22, R26: which registers an instruction can change. For each shape every 8-bit register but the destinations is kept,
and SP is kept but by the stack instructions and the instructions that name it. -/
def Obligations.RegisterFrame : Prop :=
  ∀ (s t : State) (r : R8), r ≠ .mHL →
    (∀ y z, exec (mkLd y z) s = .next t → (r ≠ y → t.reg r = s.reg r) ∧ t.cpu.sp = s.cpu.sp) ∧
    (∀ y n, exec (mkLdImm y n) s = .next t → (r ≠ y → t.reg r = s.reg r) ∧ t.cpu.sp = s.cpu.sp) ∧
    (∀ p, exec (mkLoadA p) s = .next t →
      (r ≠ .a → (p = .hlInc ∨ p = .hlDec → r ≠ .h ∧ r ≠ .l) → t.reg r = s.reg r) ∧ t.cpu.sp = s.cpu.sp) ∧
    (∀ p, exec (mkStoreA p) s = .next t →
      ((p = .hlInc ∨ p = .hlDec → r ≠ .h ∧ r ≠ .l) → t.reg r = s.reg r) ∧ t.cpu.sp = s.cpu.sp) ∧
    (∀ i a o, i = .ld_A_ma16 a ∨ i = .ldh_A_ma8 o ∨ i = .ld_A_mC → exec i s = .next t →
      (r ≠ .a → t.reg r = s.reg r) ∧ t.cpu.sp = s.cpu.sp) ∧
    (∀ i a o, i = .ld_ma16_A a ∨ i = .ldh_ma8_A o ∨ i = .ld_mC_A ∨ i = .ld_ma16_SP a → exec i s = .next t →
      t.reg r = s.reg r ∧ t.cpu.sp = s.cpu.sp) ∧
    (∀ op z n i, i = mkAlu op z ∨ i = mkAluImm op n ∨ i = .daa ∨ i = .cpl ∨ i = .scf ∨ i = .ccf ∨ i = .rlca ∨
      i = .rrca ∨ i = .rla ∨ i = .rra → exec i s = .next t → (r ≠ .a → t.reg r = s.reg r) ∧ t.cpu.sp = s.cpu.sp) ∧
    (∀ y i, i = mkInc8 y ∨ i = mkDec8 y → exec i s = .next t → (r ≠ y → t.reg r = s.reg r) ∧ t.cpu.sp = s.cpu.sp) ∧
    (∀ p, exec (mkAddHl p) s = .next t → (r ≠ .h → r ≠ .l → t.reg r = s.reg r) ∧ t.cpu.sp = s.cpu.sp) ∧
    (∀ p n i, i = mkLdPairImm p n ∨ i = mkInc16 p ∨ i = mkDec16 p → exec i s = .next t →
      (p = .bc → (r ≠ .b → r ≠ .c → t.reg r = s.reg r) ∧ t.cpu.sp = s.cpu.sp) ∧
      (p = .de → (r ≠ .d → r ≠ .e → t.reg r = s.reg r) ∧ t.cpu.sp = s.cpu.sp) ∧
      (p = .hl → (r ≠ .h → r ≠ .l → t.reg r = s.reg r) ∧ t.cpu.sp = s.cpu.sp) ∧ (p = .sp → t.reg r = s.reg r)) ∧
    (∀ e, exec (.ld_HL_SPe8 e) s = .next t → (r ≠ .h → r ≠ .l → t.reg r = s.reg r) ∧ t.cpu.sp = s.cpu.sp) ∧
    (∀ e i, i = .add_SP_e8 e ∨ i = .ld_SP_HL → exec i s = .next t → t.reg r = s.reg r) ∧
    (∀ p, exec (mkPush p) s = .next t → t.reg r = s.reg r) ∧
    (∀ p, exec (mkPop p) s = .next t →
      (p = .bc → r ≠ .b → r ≠ .c → t.reg r = s.reg r) ∧ (p = .de → r ≠ .d → r ≠ .e → t.reg r = s.reg r) ∧
      (p = .hl → r ≠ .h → r ≠ .l → t.reg r = s.reg r) ∧ (p = .af → r ≠ .a → t.reg r = s.reg r)) ∧
    (∀ op k z i, i = mkShift op z ∨ i = mkRes k z ∨ i = mkSet k z → exec i s = .next t →
      (r ≠ z → t.reg r = s.reg r) ∧ t.cpu.sp = s.cpu.sp) ∧
    (∀ k z, exec (mkBit k z) s = .next t → t.reg r = s.reg r ∧ t.cpu.sp = s.cpu.sp) ∧
    (∀ cc a e i, i = mkJrCc cc e ∨ i = mkJpCc cc a ∨ i = .jr_e8 e ∨ i = .jp_a16 a ∨ i = .jp_HL → exec i s = .next t →
      t.reg r = s.reg r ∧ t.cpu.sp = s.cpu.sp) ∧
    (∀ cc a k i, i = mkCallCc cc a ∨ i = .call_a16 a ∨ i = mkRst k ∨ i = mkRetCc cc ∨ i = .ret ∨ i = .reti →
      exec i s = .next t → t.reg r = s.reg r) ∧
    (∀ i pad op, i = .nop ∨ i = .halt ∨ i = .stop pad ∨ i = .di ∨ i = .ei ∨ i = .unknown op → exec i s = .next t →
      t.reg r = s.reg r ∧ t.cpu.sp = s.cpu.sp)

/-- R24, R27 to R29, R36: no flag is written by an instruction that does not name it. Of all instructions only EI and RETI set
IME and only DI clears it; only HALT and STOP change `cpu_state`; only HALT arms the HALT bug; none changes the parameters, the
mode, the speed, the buttons, the host's schedule or a read-only segment, and the boot ROM is never mapped back. -/
def Obligations.FlagAndControlFrame : Prop :=
  (
    ∀ (s t : State) (i : Instr), exec i s = .next t →
      (∃ y z n p q m a o cc e k pad op,
        i ∈ [mkLd y z, mkLdImm y n, mkLoadA m, mkStoreA m, .ld_A_ma16 a, .ld_ma16_A a, .ldh_A_ma8 o, .ldh_ma8_A o, .ld_A_mC,
          .ld_mC_A, mkLdPairImm p a, .ld_ma16_SP a, .ld_SP_HL, mkPush q, mkInc16 p, mkDec16 p, mkRes k z, mkSet k z, mkJrCc cc e,
          mkJpCc cc a, mkCallCc cc a, mkRetCc cc, mkRst k, .jr_e8 e, .jp_a16 a, .jp_HL, .call_a16 a, .ret, .reti, .nop, .halt,
          .stop pad, .di, .ei, .unknown op] ∨ (i = mkPop q ∧ q ≠ .af)) →
      t.cpu.f = s.cpu.f) ∧
  (
    ∀ (i : Instr) (s t : State), exec i s = .next t →
      (i ≠ .ei → i ≠ .reti → i ≠ .di → t.cpu.ime = s.cpu.ime) ∧
      (i ≠ .halt → (∀ pad, i ≠ .stop pad) → t.cpu.runState = s.cpu.runState) ∧
      (i ≠ .halt → t.cpu.haltBug = s.cpu.haltBug) ∧
      t.cpu.opcodeAddr = s.cpu.opcodeAddr ∧ FixedKept s t ∧ t.buttons = s.buttons ∧ t.host = s.host ∧
      (t.banks.bootRomEnabled = true → s.banks.bootRomEnabled = true))

/-! ### Encoding -/

/-- R156 to R158: decoding the encoding of a well-formed instruction, whatever follows it, gives it back with every operand,
and leaves what follows. The bare prefix byte as an instruction of its own is the model's choice (log entry 12), and the
exception: a following byte is part of it. -/
def Obligations.DecodeOfEncodeIsTheInstruction : Prop :=
  ∀ i : Instr, i.wellFormed = true →
    decode (encode i) = .ok (i, []) ∧
    (i ≠ .prefix_CB → ∀ rest, decode (encode i ++ rest) = .ok (i, rest))

/-- R141, R159: what decodes is well formed, and is encoded by exactly the bytes taken: no two encodings share an
instruction, no bit of an encoding is dropped. -/
def Obligations.DecodedBytesAreTheEncoding : Prop :=
  ∀ (bs rest : List Byte) (i : Instr), decode bs = .ok (i, rest) → i.wellFormed = true ∧ bs = encode i ++ rest

/-- R142, R161: an instruction is 1, 2 or 3 bytes long, by its first byte alone; the bytes decode exactly when there are
that many. Apart stands the bare prefix byte, an instruction of its own by the model's choice (log entry 12). -/
def Obligations.LengthFromFirstByte : Prop :=
  ∀ (op : Byte) (rest : List Byte),
    (opLength op = 1 ∨ opLength op = 2 ∨ opLength op = 3) ∧
    ((∃ i tail, decode (op :: rest) = .ok (i, tail)) ↔ opLength op ≤ rest.length + 1 ∨ op = 0xCB) ∧
    ∀ i tail, decode (op :: rest) = .ok (i, tail) → i ≠ .prefix_CB → (encode i).length = opLength op

/-- A few words written out bit by bit from the tables decode to the instructions they stand for. -/
def Obligations.WrittenOutWordsDecode : Prop :=
  decode [0b01111000#8] = .ok (.ld_A_B, []) ∧ decode [0b01110110#8] = .ok (.halt, []) ∧
  decode [0b10011110#8] = .ok (.sbc_A_mHL, []) ∧ decode [0b11111110#8, 0x90#8] = .ok (.cp_d8 0x90#8, []) ∧
  decode [0b00110001#8, 0xFE#8, 0xFF#8] = .ok (.ld_SP_d16 0xFFFE#16, []) ∧ decode [0b11110101#8] = .ok (.push_AF, []) ∧
  decode [0b00101010#8] = .ok (.ld_A_mHLi, []) ∧ decode [0b00111000#8, 0xFC#8] = .ok (.jr_C_e8 0xFC#8, []) ∧
  decode [0b11010100#8, 0x00#8, 0x20#8] = .ok (.call_NC_a16 0x2000#16, []) ∧ decode [0b11101111#8] = .ok (.rst_28, []) ∧
  decode [0b11001011#8, 0b01111100#8] = .ok (.bit_7_H, []) ∧ decode [0b11001011#8, 0b00110111#8] = .ok (.swap_A, []) ∧
  decode [0b11001011#8, 0b10111110#8] = .ok (.res_7_mHL, []) ∧ decode [0b11001011#8, 0b11011011#8] = .ok (.set_3_E, []) ∧
  decode [0b00001000#8, 0x00#8, 0xC1#8] = .ok (.ld_ma16_SP 0xC100#16, [])

/-! ### The Bus -/

/-- R76 to R83, R85, R86: the read of every region but the I/O registers, with its segment and offset; an access to the echo is
the access 0x2000 below it. The banks of the cartridge's windows are those its collaborator shows (R545; log entry 8). -/
def Obligations.BusReadByRegion : Prop :=
  (
    ∀ (s : State) (a : Nat),
      (a ≤ 0x00FF → s.banks.bootRomEnabled = true → busRead a s = .ok (s.mem.bootRom.read a) s) ∧
      (a ≤ 0x3FFF → (s.banks.bootRomEnabled = false ∨ 0x0100 ≤ a) → s.cartLoaded = true →
        busRead a s = .ok (s.mem.cartRom0.read a) s) ∧
      (0x4000 ≤ a → a ≤ 0x7FFF → s.cartLoaded = true → 
        busRead a s = .ok (s.mem.cartRomX.read (0x4000 * s.banks.cart.romBank.toNat + (a - 0x4000))) s) ∧
      (0x8000 ≤ a → a ≤ 0x9FFF → busRead a s = .ok (s.mem.vram.read (0x2000 * s.banks.vramBank.toNat + (a - 0x8000))) s) ∧
      (0xA000 ≤ a → a ≤ 0xBFFF → s.cartLoaded = true → s.params.cartRamPresent = true → s.banks.cart.ramOn = true →
        busRead a s = .ok (s.mem.cartRam.read (0x2000 * s.banks.cart.ramBank.toNat + (a - 0xA000))) s) ∧
      (0xC000 ≤ a → a ≤ 0xCFFF → busRead a s = .ok (s.mem.wram.read (a - 0xC000)) s) ∧
      (0xD000 ≤ a → a ≤ 0xDFFF → busRead a s = .ok (s.mem.wram.read (0x1000 * s.banks.wramBank.toNat + (a - 0xD000))) s) ∧
      (0xFE00 ≤ a → a ≤ 0xFE9F → busRead a s = .ok (s.mem.oam.read (a - 0xFE00)) s) ∧
      (0xFEA0 ≤ a → a ≤ 0xFEFF → busRead a s = .ok s.params.gapReadValue s) ∧
      (0xFF80 ≤ a → a ≤ 0xFFFE → busRead a s = .ok (s.mem.hram.read (a - 0xFF80)) s) ∧
      busRead 0xFFFF s = .ok (0xE0 ||| s.ints.enabled.setWidth 8) s) ∧
  (
    ∀ (a : Nat) (v : Byte) (s : State), 0xC000 ≤ a → a ≤ 0xDDFF →
      busRead (a + 0x2000) s = busRead a s ∧ busWrite (a + 0x2000) v s = busWrite a v s)

/-- R71, R72, R77, R78, R351: which accesses are fatal and with what error: outside the address space, a cartridge region
with no cartridge, a write to ROM that no hook consumes (the default) and a write to the boot ROM. A write to ROM that a hook
consumes moves what the hook shows and nothing else (log entry 8). No other access by the Bus is fatal, but the write to 0xFF55. -/
def Obligations.FatalBusAccesses : Prop :=
  ∀ (s : State) (a : Nat) (v : Byte),
    let shadow : Prop := a ≤ 0x00FF ∧ s.banks.bootRomEnabled = true
    let rom : Prop := a ≤ 0x7FFF ∧ ¬shadow
    let ram : Prop := 0xA000 ≤ a ∧ a ≤ 0xBFFF
    (0x10000 ≤ a → busRead a s = .fatal (s.setFault (.outOfRange a)) ∧ busWrite a v s = .fatal (s.setFault (.outOfRange a))) ∧
    (rom ∨ ram → s.cartLoaded = false →
      busRead a s = .fatal (s.setFault (.notAvailable a)) ∧ busWrite a v s = .fatal (s.setFault (.notAvailable a))) ∧
    (shadow → busWrite a v s = .fatal (s.setFault (.notWritable a))) ∧
    (rom → s.cartLoaded = true → s.params.cartWrite = .fatal → busWrite a v s = .fatal (s.setFault (.notWritable a))) ∧
    (rom → s.cartLoaded = true → s.params.cartWrite = .consumed → busWrite a v s = .ok () s) ∧
    (rom → s.cartLoaded = true → s.params.cartWrite = .hook →
      (Config.cartHook s.banks.cart a v = none → busWrite a v s = .fatal (s.setFault (.notWritable a))) ∧
      ∀ w, Config.cartHook s.banks.cart a v = some w → busWrite a v s = .ok () (s.setBanks { s.banks with cart := w })) ∧
    (a < 0x10000 → (rom ∨ ram → s.cartLoaded = true) → ∃ b t, busRead a s = .ok b t) ∧
    (a < 0x10000 → ¬shadow → ¬rom → (ram → s.cartLoaded = true) → a ≠ 0xFF55 → ∃ t, busWrite a v s = .ok () t) ∧
    (∀ n : Int, n < 0 → hostRead n s = .fatal (s.setFault (.outOfRange n)) ∧ hostWrite n v s = .fatal (s.setFault (.outOfRange n)))

/-- R126: a read changes no state of the spec: what it leaves differs at most in the count of free values, and that only
for an audio register or where no cartridge RAM is mapped; a read that is fatal sets the fault and nothing else. -/
def Obligations.ReadsHaveNoSideEffect : Prop :=
  ∀ (a : Nat) (s t : State),
    (∀ v, busRead a s = .ok v t →
      t = s ∨ (t = s.drawFree ∧ ((0xFF10 ≤ a ∧ a ≤ 0xFF3F) ∨ (0xA000 ≤ a ∧ a ≤ 0xBFFF ∧ s.cartRamMapped = false)))) ∧
    (busRead a s = .fatal t → ∃ e, t = s.setFault e)

/-- R87: a byte written at an address with no read-time override reads back, from memory cells, plain I/O offsets and HRAM
alike; also through the echo of the address. -/
def Obligations.WriteThenReadRoundTrip : Prop :=
  ∀ (a : Nat) (v : Byte) (s t : State), Memory.wf s.mem → s.BanksInv →
    s.isMemory a ∨
      (∃ off, a = 0xFF00 + off ∧ off ≤ 0x7F ∧ off ∉ [0x00, 0x04, 0x07, 0x0F, 0x41, 0x44] ∧ ¬(0x10 ≤ off ∧ off ≤ 0x3F) ∧
        (off ∈ [0x4D, 0x4F, 0x55, 0x68, 0x69, 0x6A, 0x6B, 0x70] → s.mode = .dmg)) →
    busWrite a v s = .ok () t → t.peek a = some v ∧ t.peek (if 0xC000 ≤ a ∧ a ≤ 0xDDFF then a + 0x2000 else a) = some v

/-- R90 to R120, R437, R497 to R499: what every I/O register reads as: the registers with a read override, those of the colour
mode in that mode only; every other offset, and in legacy mode the colour registers, as stored. That an audio register reads as
the free value `Config.audioRead`, drawn anew at each read, is the model's form of `AUDIO_READ` (log entry 6). -/
def Obligations.IoRegisterReads : Prop :=
  ∀ s : State,
    busRead 0xFF00 s = .ok (0xC0 ||| (s.ioRaw 0x00 &&& 0x30) |||
      (BitVec.ofNat 8 (15 - (List.range 4).foldl (fun n k => n +
        (if (!(s.ioRaw 0x00).getLsbD 4 && s.buttons.getLsbD k) || (!(s.ioRaw 0x00).getLsbD 5 && s.buttons.getLsbD (4 + k))
          then 2 ^ k else 0)) 0))) s ∧
    busRead 0xFF04 s = .ok s.timer.div s ∧ busRead 0xFF05 s = .ok s.timer.tima s ∧ busRead 0xFF06 s = .ok s.timer.tma s ∧
    busRead 0xFF07 s = .ok (BitVec.ofNat 8 (0xF8 + (if s.timer.running then 4 else 0) + s.timer.rate.toNat)) s ∧
    busRead 0xFF0F s = .ok (BitVec.ofNat 8 (0xE0 + s.ints.pending.toNat)) s ∧
    busRead 0xFF40 s = .ok (BitVec.ofNat 8 (
      (if s.video.lcdc.lcdOn then 128 else 0) + (if s.video.lcdc.winMap then 64 else 0) +
      (if s.video.lcdc.winEn then 32 else 0) + (if s.video.lcdc.tileData then 16 else 0) +
      (if s.video.lcdc.bgMap then 8 else 0) + (if s.video.lcdc.objSize then 4 else 0) +
      (if s.video.lcdc.objEn then 2 else 0) + (if s.video.lcdc.bgEn then 1 else 0))) s ∧
    busRead 0xFF41 s = .ok (0x80 ||| (s.ioRaw 0x41 &&& 0x78) ||| (if s.video.coincidence then 0x04 else 0x00) |||
      (match s.video.mode with | .hblank => 0 | .vblank => 1 | .oamSearch => 2 | .pixelTransfer => 3)) s ∧
    busRead 0xFF44 s = .ok (BitVec.ofNat 8 s.video.line) s ∧
    (s.mode = .cgb →
      busRead 0xFF4D s = .ok ((if s.doubleSpeed then 0x80 else 0x00) ||| 0x7E ||| (s.ioRaw 0x4D &&& 0x01)) s ∧
      busRead 0xFF4F s = .ok (BitVec.ofNat 8 (0xFE + s.banks.vramBank.toNat)) s ∧
      busRead 0xFF55 s = .ok (if s.hdma.active then
          (if s.hdma.stopped then 0x80 else 0x00) ||| BitVec.ofNat 8 ((s.hdma.len - s.hdma.copied + 15) / 16 - 1)
        else 0xFF) s ∧
      busRead 0xFF68 s = .ok (s.video.bcps ||| 0x40) s ∧ busRead 0xFF6A s = .ok (s.video.ocps ||| 0x40) s ∧
      busRead 0xFF69 s = .ok (s.video.bgPal.read (s.video.bcps.toNat % 64)) s ∧
      busRead 0xFF6B s = .ok (s.video.objPal.read (s.video.ocps.toNat % 64)) s ∧
      busRead 0xFF70 s = .ok (0xF8 ||| (s.ioRaw 0x70 &&& 0x07)) s) ∧
    (s.mode = .dmg → ∀ off ∈ [0x4D, 0x4F, 0x55, 0x68, 0x69, 0x6A, 0x6B, 0x70],
      busRead (0xFF00 + off) s = .ok (s.ioRaw off) s) ∧
    (∀ off, off ≤ 0x7F → ¬(0x10 ≤ off ∧ off ≤ 0x3F) →
      off ∉ [0x00, 0x04, 0x05, 0x06, 0x07, 0x0F, 0x40, 0x41, 0x44, 0x4D, 0x4F, 0x55, 0x68, 0x69, 0x6A, 0x6B, 0x70] →
      busRead (0xFF00 + off) s = .ok (s.ioRaw off) s) ∧
    (∀ off, 0x10 ≤ off → off ≤ 0x3F → busRead (0xFF00 + off) s = .ok (Config.audioRead off s.freeDraws) s.drawFree)

/-- R92, R93, R100 to R106, R108 to R117, R120, R497 to R499: what a write to each I/O register does, and that it does no more:
the registers with a write rule, and plain storage at every other offset. LCDC, and 0xFF55 in colour mode, have statements of
their own (`LcdPowerAndDelay`, `GatedTransfer`). -/
def Obligations.IoRegisterWrites : Prop :=
  ∀ (v : Byte) (s : State),
    busWrite 0xFF00 v s = .ok () (s.setIoRaw 0x00 (v &&& 0x30)) ∧
    busWrite 0xFF04 v s = .ok () (s.setTimer { s.timer with counter := 0, div := 0 }) ∧
    busWrite 0xFF05 v s = .ok () (s.setTimer { s.timer with tima := v }) ∧
    busWrite 0xFF06 v s = .ok () (s.setTimer { s.timer with tma := v }) ∧
    busWrite 0xFF07 v s = .ok () (s.setTimer { s.timer with running := v.getLsbD 2, rate := BitVec.ofNat 2 v.toNat }) ∧
    busWrite 0xFF0F v s = .ok () (s.setIF (BitVec.ofNat 5 v.toNat)) ∧
    busWrite 0xFFFF v s = .ok () (s.setIE (BitVec.ofNat 5 v.toNat)) ∧
    busWrite 0xFF41 v s = .ok () (s.setIoRaw 0x41 (v &&& 0x78)) ∧
    busWrite 0xFF44 v s = .ok () s ∧
    busWrite 0xFF45 v s = .ok () (compareLyc (s.setIoRaw 0x45 v)) ∧
    busWrite 0xFF46 v s = .ok () ((s.setIoRaw 0x46 v).setOamDma
      { active := true, src := BitVec.ofNat 16 (256 * v.toNat), ticks := 0, copied := 0 }) ∧
    busWrite 0xFF50 v s = .ok () ((s.setIoRaw 0x50 v).setBanks { s.banks with bootRomEnabled := false }) ∧
    (∀ off, 0x10 ≤ off → off ≤ 0x3F → busWrite (0xFF00 + off) v s = .ok () s) ∧
    (s.mode = .cgb →
      busWrite 0xFF4D v s = .ok () (s.setIoRaw 0x4D (v &&& 0x01)) ∧
      busWrite 0xFF4F v s = .ok () (s.setBanks { s.banks with vramBank := BitVec.ofNat 1 v.toNat }) ∧
      busWrite 0xFF70 v s = .ok () ((s.setIoRaw 0x70 v).setBanks
        { s.banks with wramBank := if v.toNat % 8 = 0 then 1 else BitVec.ofNat 3 v.toNat }) ∧
      busWrite 0xFF68 v s = .ok () (s.setVideo { s.video with bcps := v &&& 0xBF }) ∧
      busWrite 0xFF6A v s = .ok () (s.setVideo { s.video with ocps := v &&& 0xBF }) ∧
      busWrite 0xFF69 v s = .ok () (s.setVideo { s.video with
        bgPal := s.video.bgPal.write (s.video.bcps.toNat % 64) v
        bcps := if s.video.bcps.toNat < 128 then s.video.bcps
          else BitVec.ofNat 8 (s.video.bcps.toNat - s.video.bcps.toNat % 64 + (s.video.bcps.toNat % 64 + 1) % 64) }) ∧
      busWrite 0xFF6B v s = .ok () (s.setVideo { s.video with
        objPal := s.video.objPal.write (s.video.ocps.toNat % 64) v
        ocps := if s.video.ocps.toNat < 128 then s.video.ocps
          else BitVec.ofNat 8 (s.video.ocps.toNat - s.video.ocps.toNat % 64 + (s.video.ocps.toNat % 64 + 1) % 64) })) ∧
    (s.mode = .dmg → ∀ off ∈ [0x4D, 0x4F, 0x55, 0x68, 0x69, 0x6A, 0x6B, 0x70],
      busWrite (0xFF00 + off) v s = .ok () (s.setIoRaw off v)) ∧
    (∀ off, off ≤ 0x7F → ¬(0x10 ≤ off ∧ off ≤ 0x3F) →
      off ∉ [0x00, 0x04, 0x05, 0x06, 0x07, 0x0F, 0x40, 0x41, 0x44, 0x45, 0x46, 0x4D, 0x4F, 0x50, 0x55, 0x68, 0x69, 0x6A, 0x6B,
        0x70] →
      busWrite (0xFF00 + off) v s = .ok () (s.setIoRaw off v))

/-! ### The Timer -/

/-- R401, R404, R405: one Timer step, in the rule's arithmetic: the counter, the divider every 64 counts, `tima` at the
selected period, the reload and the interrupt on overflow in the same step; nothing else changes. The table of periods, 256, 4, 16
and 64, is the spec's own inference (R404, "derived: from rule R401"), not the document's text. -/
def Obligations.TimerStepCounts : Prop :=
  ∀ s : State,
    let n := (s.timer.counter.toNat + 1) % 256
    let period : Nat := if s.timer.rate = 0 then 256 else if s.timer.rate = 1 then 4 else if s.timer.rate = 2 then 16 else 64
    let due : Prop := s.timer.running = true ∧ n % period = 0
    (timerStep s).timer.counter.toNat = n ∧
    (timerStep s).timer.div.toNat = (if n % 64 = 0 then (s.timer.div.toNat + 1) % 256 else s.timer.div.toNat) ∧
    (¬due → (timerStep s).timer.tima = s.timer.tima ∧ (timerStep s).ints = s.ints) ∧
    (due → s.timer.tima ≠ 0xFF →
      (timerStep s).timer.tima.toNat = s.timer.tima.toNat + 1 ∧ (timerStep s).ints = s.ints) ∧
    (due → s.timer.tima = 0xFF → (timerStep s).timer.tima = s.timer.tma ∧
      (timerStep s).ints = { s.ints with pending := s.ints.pending ||| 0x04 }) ∧
    timerStep s = { s with
      timer := { s.timer with
        counter := (timerStep s).timer.counter, div := (timerStep s).timer.div, tima := (timerStep s).timer.tima }
      ints := (timerStep s).ints }

/-- R402: after a write to DIV the next increment of `div` comes exactly 64 Timer steps later, and the next one of `tima`,
while it runs, exactly one period later. The table of periods is the spec's own inference (R404). -/
def Obligations.DivWriteShiftsTimerPhase : Prop :=
  ∀ (s : State) (v : Byte), ∃ t, busWrite 0xFF04 v s = .ok () t ∧
    let period : Nat := if s.timer.rate = 0 then 256 else if s.timer.rate = 1 then 4 else if s.timer.rate = 2 then 16 else 64
    (∀ k, k < 64 → (timerStep^[k] t).timer.div = 0) ∧ (timerStep^[64] t).timer.div = 1 ∧
    (s.timer.running = true →
      (∀ k, k < period → (timerStep^[k] t).timer.tima = s.timer.tima) ∧
      (timerStep^[period] t).timer.tima = (if s.timer.tima = 0xFF then s.timer.tma else s.timer.tima + 1)) ∧
    (s.timer.running = false → ∀ k, (timerStep^[k] t).timer.tima = s.timer.tima)

/-! ### Interrupts -/

/-- R100, R355, R357, R545: raising a source sets its IF bit and does nothing else, and raising it again changes nothing; the
host's press raises the joypad source once, for a button not already held; a release raises nothing. -/
def Obligations.RaiseAndPress : Prop :=
  (
    ∀ (k : IntSource) (s : State),
      let i : Nat := match k with | .vblank => 0 | .lcdStatus => 1 | .timer => 2 | .serial => 3 | .joypad => 4
      (∀ j, (s.raiseInterrupt k).ints.pending.getLsbD j = (decide (j = i) || s.ints.pending.getLsbD j)) ∧
      s.raiseInterrupt k = { s with ints := { s.ints with pending := (s.raiseInterrupt k).ints.pending } } ∧
      (s.raiseInterrupt k).raiseInterrupt k = s.raiseInterrupt k) ∧
  (
    ∀ (k : Fin 8) (s : State),
      (s.buttons.getLsbD k.val = true → hostPress k s = s) ∧
      (s.buttons.getLsbD k.val = false →
        (∀ j, (hostPress k s).buttons.getLsbD j = (decide (j = k.val) || s.buttons.getLsbD j)) ∧
        hostPress k s = { s with
          buttons := (hostPress k s).buttons, ints := { s.ints with pending := s.ints.pending ||| 0x10 } }) ∧
      (∀ j, (hostRelease k s).buttons.getLsbD j = (decide (j ≠ k.val) && s.buttons.getLsbD j)) ∧
      hostRelease k s = { s with buttons := (hostRelease k s).buttons })

/-- R360 to R364: the dispatcher. Nothing with IME = 0 or no source pending and enabled; else the lowest such source, its IF
bit and IME cleared first, PC pushed, PC at its vector, RUNNING, at 5 cycles, 6 out of HALTED; if the push is fatal, the IF bit
and IME stay cleared. -/
def Obligations.DispatchTakesLowestSource : Prop :=
  ∀ (s : State) (k : IntSource),
    let index (j : IntSource) : Nat := match j with | .vblank => 0 | .lcdStatus => 1 | .timer => 2 | .serial => 3 | .joypad => 4
    let on (j : IntSource) : Prop := s.ints.enabled.getLsbD (index j) = true ∧ s.ints.pending.getLsbD (index j) = true
    let vector : Word := match k with
      | .vblank => s.params.vectors.vblank
      | .lcdStatus => s.params.vectors.lcdStatus
      | .timer => s.params.vectors.timer
      | .serial => s.params.vectors.serial
      | .joypad => s.params.vectors.joypad
    let ack : State := { s with
      ints := { s.ints with pending := s.ints.pending &&& ~~~((1 : BitVec 5) <<< index k) }, cpu := { s.cpu with ime := false } }
    (s.cpu.ime = false ∨ (∀ j, ¬on j) → interruptDispatch s = .ok 0 s) ∧
    (s.cpu.ime = true → on k → (∀ j, index j < index k → ¬on j) → s.cpu.runState ≠ .reset → ∀ t : State,
      (push16 s.cpu.pc ack = .ok () t →
        interruptDispatch s = .ok (if s.cpu.runState = .halted then 6 else 5) ((t.setPc vector).setRunState .running)) ∧
      (push16 s.cpu.pc ack = .fatal t → interruptDispatch s = .fatal t))

/-- R364: at handler entry the return address stands on the stack, low byte at the new SP, and every other register, IE and the
other IF bits are as before (the stack in memory cells, wherever they are). -/
def Obligations.HandlerEntryState : Prop :=
  ∀ (s t : State) (n : Nat), Memory.wf s.mem → s.BanksInv →
    s.isMemory (s.cpu.sp - 1).toNat → s.isMemory (s.cpu.sp - 2).toNat → s.cpu.runState ≠ .reset → interruptDispatch s = .ok n t → 0 < n →
    t.peek t.cpu.sp.toNat = some (BitVec.ofNat 8 s.cpu.pc.toNat) ∧
    t.peek (t.cpu.sp + 1).toNat = some (BitVec.ofNat 8 (s.cpu.pc.toNat / 256)) ∧
    t.cpu = { s.cpu with sp := s.cpu.sp - 2, pc := t.cpu.pc, ime := false, runState := .running } ∧
    t.ints.enabled = s.ints.enabled ∧ ∃ k : IntSource, t.cpu.pc = k.vector s.params.vectors ∧
      s.ints.pending = t.ints.pending ||| k.mask ∧ t.ints.pending &&& k.mask = 0

/-! ### The CPU step -/

/-- R171 to R176, R181, R370: a CPU step with cycles pending advances the Timer and consumes one, and looks at nothing else;
without, a dispatch ends the step and leaves its cost less one. With nothing dispatched: STOPPED leaves on any pending source of
the mask and fetches in the same step; HALTED leaves on a source pending and enabled, and the step ends; IF is not changed. -/
def Obligations.CpuStepOrder : Prop :=
  (
    ∀ s : State, s.cpu.runState ≠ .reset →
      let s1 := timerStep s
      (0 < s.cpu.pendingCycles → cpuStep s = .next (s1.setPending (s.cpu.pendingCycles - 1))) ∧
      (s.cpu.pendingCycles = 0 → ∀ t : State,
        (∀ n, interruptDispatch s1 = .ok n t → 0 < n → cpuStep s = .next (t.setPending (n - 1))) ∧
        (interruptDispatch s1 = .fatal t → cpuStep s = .next t) ∧
        (s.cpu.runState = .running → interruptDispatch s1 = .ok 0 t → cpuStep s = fetchExecute s1))) ∧
  (
    ∀ s : State, s.cpu.pendingCycles = 0 →
      let s1 := timerStep s
      interruptDispatch s1 = .ok 0 s1 →
      (s.cpu.runState = .stopped →
        (s1.ints.pending &&& s.params.stopWakeMask = 0 → cpuStep s = .next s1) ∧
        (s1.ints.pending &&& s.params.stopWakeMask ≠ 0 → cpuStep s = fetchExecute (s1.setRunState .running))) ∧
      (s.cpu.runState = .halted →
        (s1.ints.enabled &&& s1.ints.pending = 0 → cpuStep s = .next s1) ∧
        (s1.ints.enabled &&& s1.ints.pending ≠ 0 → cpuStep s = .next (s1.setRunState .running))))

/-- R177, R178, R180: the opcode fetch reads the byte at PC and moves PC past it; with the HALT bug armed it leaves PC and
disarms the bug, so that the next fetch reads the same byte. -/
def Obligations.OpcodeFetchAndHaltBug : Prop :=
  ∀ (s t : State) (op : Byte),
    (busRead16 s.cpu.pc s = .ok op t → s.cpu.haltBug = false →
      fetchOpcode s = .ok op ((t.setOpcodeAddr s.cpu.pc).setPc (s.cpu.pc + 1))) ∧
    (busRead16 s.cpu.pc s = .ok op t → s.cpu.haltBug = true →
      fetchOpcode s = .ok op ((t.setOpcodeAddr s.cpu.pc).setHaltBug false)) ∧
    (busRead16 s.cpu.pc s = .fatal t → fetchOpcode s = .fatal t) ∧
    (fetchOpcode s = .ok op t → s.cpu.haltBug = true →
      t.cpu.pc = s.cpu.pc ∧ t.cpu.haltBug = false ∧ t.peek s.cpu.pc.toNat = s.peek s.cpu.pc.toNat)

/-- R23, R141, R147, R148, R177: when the bytes at PC are those of a well-formed instruction i (in memory whose reads draw no
free value), a step that fetches runs exactly i, from the state with PC past those bytes. -/
def Obligations.StepRunsTheDecodedInstruction : Prop :=
  ∀ (i : Instr) (s : State), i.wellFormed = true → i ≠ .prefix_CB →
    s.fault = none → s.host = [] → s.doubleSpeed = false → s.cpu.runState = .running → s.cpu.pendingCycles = 0 →
    s.cpu.haltBug = false →
    let s1 := timerStep s
    (s1.cpu.ime = false ∨ s1.ints.enabled &&& s1.ints.pending = 0) →
    (∀ (k : Nat) (h : k < (encode i).length), busRead16 (s.cpu.pc + BitVec.ofNat 16 k) s1 = .ok (encode i)[k] s1) →
    step s = goOn (exec i ((s1.setOpcodeAddr s.cpu.pc).setPc (s.cpu.pc + BitVec.ofNat 16 (encode i).length))) peripherals

/-- R170, R183, R545, R546: a step is first the moves the host's schedule has before this tick, in order, a poke as a `BusWrite`;
they are taken off the schedule, and a fatal poke leaves out the rest of them and the tick. Then one external tick: one CPU step, or
two in double speed, one Transfer Engine step, one Video step, each part only if no fatal error came before. That the schedule
stands in the state is the model's form of the host (log entry 11). -/
def Obligations.TickOrderAndDoubleSpeed : Prop :=
  ∀ s0 : State, s0.fault = none →
    let move (r : Res Unit) (m : HostMove) : Res Unit :=
      match r with
      | .fatal u => .fatal u
      | .ok _ u =>
        match m with
        | .press k => .ok () (hostPress k u)
        | .release k => .ok () (hostRelease k u)
        | .poke a v => if a < 0 then .fatal (u.setFault (.outOfRange a)) else busWrite a.toNat v u
    let turn : Res Unit := (s0.host.headD []).foldl move (.ok () (s0.setHost s0.host.tail))
    (∀ s, turn = .fatal s → s.fault ≠ none ∧ s.host = s0.host.tail ∧ step s0 = .next s) ∧
    ∀ s, turn = .ok () s → s.fault = none ∧ s.host = s0.host.tail ∧
      let rest (t : State) : Out :=
        if t.fault = none then
          match transferStep t with
          | .ok _ u => .next (videoStep u)
          | .fatal u => .next u
        else .next t
      ∃ t, cpuStep s = .next t ∧
        (s.doubleSpeed = false → step s0 = rest t) ∧
        (s.doubleSpeed = true → ∃ u, (if t.fault = none then cpuStep t else .next t) = .next u ∧ step s0 = rest u)

/-- R5, R33, R36, R47, R48, R116, R350, R561: every state has a step; in the fault state it is the empty one, and a fault is
never cleared. No step changes the parameters, `MODE`, the speed, what is loaded or a read-only segment, and none maps the boot
ROM back. -/
def Obligations.FaultsAndFixedParts : Prop :=
  (
    (∀ s : State, ∃ t, step s = .next t) ∧
    (∀ s : State, s.fault ≠ none → step s = .next s) ∧
    ∀ s t : State, step s = .next t → s.fault ≠ none → t.fault = s.fault) ∧
  (
    ∀ s t : State, step s = .next t →
      FixedKept s t ∧ (t.banks.bootRomEnabled = true → s.banks.bootRomEnabled = true))

/-- R20: the register file belongs to the CPU: neither the host, nor the Timer, nor the Transfer Engine, nor the Video unit
changes any of the CPU's state. -/
def Obligations.OtherAgentsKeepTheCpu : Prop :=
  ∀ s : State,
    (timerStep s).cpu = s.cpu ∧ (videoStep s).cpu = s.cpu ∧ (transferStep s).state.cpu = s.cpu ∧
    (hostTurn s).state.cpu = s.cpu ∧ ∀ (a : Nat) (v : Byte), (busWrite a v s).state.cpu = s.cpu

/-! ### The Transfer Engine -/

/-- R420, R421, R423: the immediate transfer. It runs only when no gated transfer takes the tick; its first tick moves
nothing, each later one moves one byte through the Bus, and it ends at its tick 161. -/
def Obligations.ImmediateTransferStep : Prop :=
  ∀ s : State, (s.hdma.active = false ∨ s.hdma.stopped = true) →
    (s.oamDma.active = false → transferStep s = .ok () s) ∧
    (s.oamDma.active = true →
      let s1 := s.setOamDma { s.oamDma with ticks := s.oamDma.ticks + 1 }
      (s.oamDma.ticks = 0 → transferStep s = .ok () s1) ∧
      (1 ≤ s.oamDma.ticks → s.oamDma.ticks < 160 → s.oamDma.copied < 160 → ∀ (b : Byte) (t : State),
        busRead (s.oamDma.src.toNat + s.oamDma.copied) s1 = .ok b t →
        transferStep s = .ok () ((t.setMem { t.mem with oam := t.mem.oam.write s.oamDma.copied b }).setOamDma
          { s1.oamDma with copied := s.oamDma.copied + 1 })) ∧
      (s.oamDma.ticks = 160 → s.oamDma.copied < 160 → ∀ (b : Byte) (t : State),
        busRead (s.oamDma.src.toNat + s.oamDma.copied) s1 = .ok b t →
        transferStep s = .ok () ((t.setMem { t.mem with oam := t.mem.oam.write s.oamDma.copied b }).setOamDma
          { s1.oamDma with copied := s.oamDma.copied + 1, active := false })) ∧
      (1 ≤ s.oamDma.ticks → ∀ t : State, busRead (s.oamDma.src.toNat + s.oamDma.copied) s1 = .fatal t →
        transferStep s = .fatal t))

/-- R421 to R426: a transfer just started from a page of memory outside OAM and the I/O block, with no gated transfer in
the way, has after exactly 161 steps copied the page's 160 bytes to OAM and ended, and changed nothing else. -/
def Obligations.ImmediateTransferCopiesThePage : Prop :=
  ∀ (s : State) (page : Byte), Memory.wf s.mem → (s.hdma.active = false ∨ s.hdma.stopped = true) →
    s.oamDma = { active := true, src := page ++ (0 : Byte), ticks := 0, copied := 0 } →
    page.toNat < 0xFE → s.cartLoaded = true → s.cartRamMapped = true →
    let after (k : Nat) : State := (fun u => (transferStep u).state)^[k] s
    (∀ i, i < 160 → some ((after 161).mem.oam.read i) = s.peek (page.toNat * 256 + i)) ∧
    (∀ k, 1 ≤ k → k ≤ 160 → (after k).oamDma.active = true ∧ (after k).oamDma.copied = k - 1) ∧
    after 161 = { s with
      mem := { s.mem with oam := (after 161).mem.oam }
      oamDma := { s.oamDma with active := false, ticks := 161, copied := 160 } }

/-- R118, R420, R424, R430 to R434, R436, R437: a write to 0xFF55 in colour mode is an explicit stop, a fatal error that leaves the
previous transfer as it was, or a new transfer. The transfer takes the tick while active and not stopped; HBlank-gated it waits
outside HBLANK; of two progressing ticks the first moves nothing, the second one byte into VRAM; the last byte ends it; a source
read that is fatal (a cartridge source, no cartridge) stops the step with nothing moved. And what 0xFF55 reads. -/
def Obligations.GatedTransfer : Prop :=
  (
    ∀ (v : Byte) (s : State), s.mode = .cgb →
      let src : Word := ((s.ioRaw 0x51).setWidth 16 <<< 8 ||| (s.ioRaw 0x52).setWidth 16) &&& 0xFFF0
      let dst : Word := ((s.ioRaw 0x53).setWidth 16 <<< 8 ||| (s.ioRaw 0x54).setWidth 16) &&& 0xFFF0
      let len : Nat := (v.toNat % 128 + 1) * 16
      let stops : Prop := s.hdma.active = true ∧ s.hdma.stopped = false ∧ s.hdma.mode = .hblank ∧ v.toNat < 128
      let valid : Prop := 0x8000 ≤ dst.toNat ∧ dst.toNat + len - 1 ≤ 0x9FFF ∧
        (src.toNat + len - 1 ≤ 0x7FFF ∨ (0xA000 ≤ src.toNat ∧ src.toNat + len - 1 ≤ 0xBFFF))
      (stops → busWrite 0xFF55 v s = .ok () (s.setHdma { s.hdma with stopped := true })) ∧
      (¬stops → ¬valid → busWrite 0xFF55 v s = .fatal (s.setFault (.hdmaBadAddress src dst len))) ∧
      (¬stops → valid → busWrite 0xFF55 v s = .ok () (s.setHdma
        { active := true, mode := if v.toNat < 128 then .general else .hblank, src := src, dst := dst, len := len, copied := 0
          stopped := false, phase := false }))) ∧
  (
    ∀ s : State,
      (s.hdma.active = true → s.hdma.stopped = false →
        (s.hdma.mode = .hblank → s.video.mode ≠ .hblank → transferStep s = .ok () s) ∧
        (s.hdma.mode = .general ∨ s.video.mode = .hblank →
          (s.hdma.phase = false → transferStep s = .ok () (s.setHdma { s.hdma with phase := true })) ∧
          (s.hdma.phase = true → ∀ t : State,
            busRead (s.hdma.src.toNat + s.hdma.copied) (s.setHdma { s.hdma with phase := false }) = .fatal t →
            transferStep s = .fatal t ∧ ∃ e, t = (s.setHdma { s.hdma with phase := false }).setFault e) ∧
          (s.hdma.phase = true → 0x8000 ≤ s.hdma.dst.toNat + s.hdma.copied → s.hdma.dst.toNat + s.hdma.copied ≤ 0x9FFF →
            let off : Nat := 0x2000 * s.banks.vramBank.toNat + (s.hdma.dst.toNat + s.hdma.copied - 0x8000)
            let last : Bool := decide (s.hdma.copied + 1 = s.hdma.len)
            ∀ (b : Byte) (t : State),
              busRead (s.hdma.src.toNat + s.hdma.copied) (s.setHdma { s.hdma with phase := false }) = .ok b t →
              transferStep s = .ok () ((t.setMem { t.mem with vram := t.mem.vram.write off b }).setHdma
                { s.hdma with phase := false, copied := s.hdma.copied + 1, active := !last })))) ∧
      (s.mode = .cgb → s.hdma.active = false → busRead 0xFF55 s = .ok 0xFF s) ∧
      (s.mode = .cgb → s.hdma.active = true → s.hdma.copied < s.hdma.len → s.hdma.len ≤ 2048 →
        busRead 0xFF55 s = .ok (BitVec.ofNat 8
          ((if s.hdma.stopped then 128 else 0) + ((s.hdma.len - s.hdma.copied + 15) / 16 - 1))) s))

/-! ### The Video unit -/

/-- R107, R458, R459, R462, R463, R531: a write to LCDC sets the eight fields and reads back; switching the LCD on starts the
61-tick delay and nothing else; switching it off blanks the back buffer, forces line 0 and HBLANK and raises nothing. With the LCD
off nothing moves; the 61st step after it is switched on begins line 0, and not before. -/
def Obligations.LcdPowerAndDelay : Prop :=
  (
    ∀ (v : Byte) (s : State),
      let fields : Lcdc :=
        { lcdOn := v.getLsbD 7, winMap := v.getLsbD 6, winEn := v.getLsbD 5, tileData := v.getLsbD 4, bgMap := v.getLsbD 3
          objSize := v.getLsbD 2, objEn := v.getLsbD 1, bgEn := v.getLsbD 0 }
      ∃ t, busWrite 0xFF40 v s = .ok () t ∧ busRead 0xFF40 t = .ok v t ∧
        (s.video.lcdc.lcdOn = v.getLsbD 7 → t = s.setVideo { s.video with lcdc := fields }) ∧
        (s.video.lcdc.lcdOn = false → v.getLsbD 7 = true →
          t = s.setVideo { s.video with lcdc := fields, enableDelay := 61 }) ∧
        (s.video.lcdc.lcdOn = true → v.getLsbD 7 = false →
          (∀ x y, t.video.back.pixel s.params x y = s.params.blank) ∧
          t = s.setVideo { s.video with
            lcdc := fields, line := 0, lineT := 0, mode := .hblank, enableDelay := 0
            coincidence := decide ((s.ioRaw 0x45).toNat = 0)
            fb0 := if s.video.frontSel then [] else s.video.fb0, fb1 := if s.video.frontSel then s.video.fb1 else [] })) ∧
  (
    ∀ s : State,
      (s.video.lcdc.lcdOn = false → videoStep s = s) ∧
      (s.video.lcdc.lcdOn = true → s.video.enableDelay = 61 → s.video.line = 0 → s.video.mode = .hblank →
        (∀ k, k < 61 → videoStep^[k] s = s.setVideo { s.video with enableDelay := 61 - k }) ∧
        (videoStep^[61] s).video.line = 0 ∧ (videoStep^[61] s).video.lineT = 0 ∧
        (videoStep^[61] s).video.mode = .oamSearch ∧ (videoStep^[61] s).video.enableDelay = 0))

/-- R454, R456: entering a mode sets it, and STAT shows it; only with the LCD on, VBLANK raises source 0, and a mode other than
PIXEL_TRANSFER whose STAT enable bit is set raises source 1. A write to STAT raises nothing, and line 144 is entered in VBLANK,
not OAM_SEARCH. Setting LY, and a write to LYC, compare the two; whether a match with STAT bit 6 set interrupts is the parameter
`LYC_IRQ`. -/
def Obligations.ModeEntryAndLineCompare : Prop :=
  (
    ∀ (m : VideoMode) (s : State),
      let number : Nat := match m with | .hblank => 0 | .vblank => 1 | .oamSearch => 2 | .pixelTransfer => 3
      let irq0 : Bool := s.video.lcdc.lcdOn && decide (m = .vblank)
      let irq1 : Bool := s.video.lcdc.lcdOn && decide (m ≠ .pixelTransfer) && (s.ioRaw 0x41).getLsbD (3 + number)
      enterMode m s = { s with
        video := { s.video with mode := m }
        ints := { s.ints with
          pending := s.ints.pending ||| (if irq0 then 0x01 else 0x00) ||| (if irq1 then 0x02 else 0x00) } } ∧
      (∃ v, busRead 0xFF41 (enterMode m s) = .ok v (enterMode m s) ∧ v.toNat % 4 = number)) ∧
  (
    ∀ (v : Byte) (s : State),
      busWrite 0xFF41 v s = .ok () { s with mem := { s.mem with io := s.mem.io.write 0x41 (v &&& 0x78) } } ∧
      (s.video.lcdc.lcdOn = true → s.video.enableDelay = 0 → s.video.lineT = 113 →
        (s.video.line = 143 → videoStep s = enterMode .vblank (setLine 144 (s.setVideo { s.video with lineT := 0 }))) ∧
        (144 ≤ s.video.line → s.video.line < 153 →
          videoStep s = setLine (s.video.line + 1) (s.setVideo { s.video with lineT := 0 })))) ∧
  (
    ∀ (n : Nat) (s : State),
      let hit : Bool := decide (n = (s.ioRaw 0x45).toNat)
      let irq : Bool :=
        s.params.lycIrq && s.video.lcdc.lcdOn && !s.video.coincidence && hit && (s.ioRaw 0x41).getLsbD 6
      setLine n s = { s with
        video := { s.video with line := n, coincidence := hit }
        ints := { s.ints with pending := s.ints.pending ||| (if irq then 0x02 else 0x00) } }) ∧
  (
    ∀ (v : Byte) (s : State), Memory.wf s.mem →
      let hit : Bool := decide (s.video.line = v.toNat)
      let irq : Bool :=
        s.params.lycIrq && s.video.lcdc.lcdOn && !s.video.coincidence && hit && (s.ioRaw 0x41).getLsbD 6
      busWrite 0xFF45 v s = .ok () { s with
        mem := { s.mem with io := s.mem.io.write 0x45 v }
        video := { s.video with coincidence := hit }
        ints := { s.ints with pending := s.ints.pending ||| (if irq then 0x02 else 0x00) } })

/-- R451, R453, R457: one frame. From the start of line 0 with the LCD on, after n steps, n below 17556, LY is n / 114, the
cycle n mod 114 and the mode that of the table; the vblank source has been raised from step 16416 on; step 114 L + 63, L below
144, renders line L into the back buffer, and no other step changes a framebuffer; and step 17556 swaps the buffers and is back at
the start of line 0. -/
def Obligations.FrameTakes17556Steps : Prop :=
  ∀ s : State, s.video.lcdc.lcdOn = true → s.video.enableDelay = 0 → s.video.line = 0 → s.video.lineT = 0 →
    s.video.mode = .oamSearch →
    (∀ n, n < 17556 →
      (videoStep^[n] s).video.line = n / 114 ∧ (videoStep^[n] s).video.lineT = n % 114 ∧
      (videoStep^[n] s).video.frontSel = s.video.frontSel ∧
      (videoStep^[n] s).video.mode =
        (if 16416 ≤ n then .vblank else if n % 114 < 20 then .oamSearch else if n % 114 < 63 then .pixelTransfer else .hblank) ∧
      (videoStep^[n] s).ints.pending.getLsbD 0 = (decide (16416 ≤ n) || s.ints.pending.getLsbD 0) ∧
      let before : State := videoStep^[n] s
      let drawn : State := if n % 114 = 62 ∧ n / 114 < 144 then renderLine (n / 114) before else before
      (videoStep^[n + 1] s).video.fb0 = drawn.video.fb0 ∧ (videoStep^[n + 1] s).video.fb1 = drawn.video.fb1) ∧
    (videoStep^[17556] s).video.line = 0 ∧ (videoStep^[17556] s).video.lineT = 0 ∧
    (videoStep^[17556] s).video.mode = .oamSearch ∧ (videoStep^[17556] s).video.frontSel = !s.video.frontSel

/-- R45, R49, R455: the front framebuffer is never changed by a step but at a swap, where the two exchange roles with their
contents as they were. -/
def Obligations.FrontBufferIsStable : Prop :=
  ∀ s t : State, step s = .next t →
    (t.video.frontSel = s.video.frontSel → t.video.front = s.video.front) ∧
    (t.video.frontSel ≠ s.video.frontSel → t.video.back = s.video.front ∧ t.video.front = s.video.back)

/-- R455, R480: rendering a line of the screen writes the `SCREEN_W` pixels of that row of the back buffer, each as composed
from the state, and no other row and nothing else. -/
def Obligations.RenderLineWritesOneRow : Prop :=
  ∀ (l : Nat) (s : State), Frame.wf s.params s.video.back → l < s.params.screenH →
    (∀ x, x < s.params.screenW → (renderLine l s).video.back.pixel s.params x l = linePixel s (selectSprites s l) l x) ∧
    (∀ x y, y ≠ l → (renderLine l s).video.back.pixel s.params x y = s.video.back.pixel s.params x y) ∧
    (renderLine l s).video.front = s.video.front ∧
    renderLine l s = { s with video := { s.video with fb0 := (renderLine l s).video.fb0, fb1 := (renderLine l s).video.fb1 } }

/-- R470, R480, R481, R483, R487: the first ten OAM entries that cover the line are selected, in colour mode in OAM order, in
legacy mode the same ten ordered by x, those of equal x in OAM order, none with sprites off. A pixel is the sprite's unless the sprite is hidden, which the rule's
three cases decide; with the background off in legacy mode and no window it is colour 0, `BLANK`, behind every sprite. -/
def Obligations.SpritesAndPriority : Prop :=
  (
    ∀ (s : State) (l : Nat),
      (selectSprites s l).length ≤ 10 ∧
      (∀ e ∈ selectSprites s l, ∃ i, i < 40 ∧ e = spriteEntry s.mem.oam i ∧
        e.y.toNat ≤ l + 16 ∧ l + 16 < e.y.toNat + (if s.video.lcdc.objSize then 16 else 8)) ∧
      (s.video.lcdc.objEn = false → selectSprites s l = []) ∧
      (s.mode = .dmg → (selectSprites s l).Pairwise (fun e f => e.x.toNat ≤ f.x.toNat)) ∧
      (s.video.lcdc.objEn = true →
        let found := (((List.range 40).map (spriteEntry s.mem.oam)).filter (fun e =>
          decide (e.y.toNat ≤ l + 16 ∧ l + 16 < e.y.toNat + (if s.video.lcdc.objSize then 16 else 8)))).take 10
        (s.mode = .cgb → selectSprites s l = found) ∧
        (s.mode = .dmg → (selectSprites s l).Perm found ∧
          ∀ k : Byte, (selectSprites s l).filter (fun e => e.x == k) = found.filter (fun e => e.x == k)))) ∧
  (
    ∀ (s : State) (sprites : List SpriteEntry) (l x : Nat),
      (spritePixel s l x sprites = none → linePixel s sprites l x = (bgWinPixel s l x).rgb) ∧
      (∀ rgb below, spritePixel s l x sprites = some (rgb, below) →
        (s.mode = .cgb → s.video.lcdc.bgEn = false → linePixel s sprites l x = rgb) ∧
        (s.mode = .dmg → linePixel s sprites l x =
          if (bgWinPixel s l x).idx ≠ 0 ∧ below = true then (bgWinPixel s l x).rgb else rgb) ∧
        (s.mode = .cgb → s.video.lcdc.bgEn = true → linePixel s sprites l x =
          if (bgWinPixel s l x).idx ≠ 0 ∧ below = true ∧ (bgWinPixel s l x).above = false then (bgWinPixel s l x).rgb else rgb)) ∧
      (s.mode = .dmg → s.video.lcdc.bgEn = false → (s.video.lcdc.winEn = false ∨ l < (s.ioRaw 0x4A).toNat) →
        bgWinPixel s l x = { idx := 0, rgb := s.params.blank, above := false }))

/-- R472, R473: a tile pixel's colour index from its two bit planes; the two tile-data areas. R482 to R485: a pixel of the
background or window, its map, its scroll modulo 256, its attributes. R486: a sprite's index, with its flips and its height; the
sprite that shows is the first whose index is not 0. R488, R489, R496: the colours of the two modes. -/
def Obligations.TilesAndColours : Prop :=
  ∀ s : State,
    let vram (bank : Bool) (addr : Nat) : Byte := s.mem.vram.read ((if bank then 0x2000 else 0) + (addr - 0x8000))
    let gray (shade : Nat) : Rgb :=
      let g := if shade = 0 then s.params.gray.shade0 else if shade = 1 then s.params.gray.shade1
        else if shade = 2 then s.params.gray.shade2 else s.params.gray.shade3
      { r := g, g := g, b := g }
    let colour (m : Bytes) (pal idx : Nat) : Rgb :=
      let e := (m.read (8 * pal + 2 * idx)).toNat + 256 * (m.read (8 * pal + 2 * idx + 1)).toNat
      let scale (v : Nat) : Byte := s.params.scale5.toList.getD v 0
      { r := scale (e % 32), g := scale (e / 32 % 32), b := scale (e / 1024 % 32) }
    let sample (base py px : Nat) : BgPixel :=
      let m := base + 32 * (py / 8) + px / 8
      let attr : Byte := if s.mode = .cgb then vram true m else 0
      let r := if attr.getLsbD 6 then 7 - py % 8 else py % 8
      let c := if attr.getLsbD 5 then 7 - px % 8 else px % 8
      let idx := tilePixel s (attr.getLsbD 3) (bgTileAddr s.video.lcdc (vram false m)) r c
      { idx := idx, rgb := bgColour s (BitVec.ofNat 3 attr.toNat) idx, above := attr.getLsbD 7 }
    let win (l x : Nat) : Prop :=
      s.video.lcdc.winEn = true ∧ (s.ioRaw 0x4A).toNat ≤ l ∧ ((s.ioRaw 0x4B).toNat : Int) - 7 ≤ x
    (∀ (bank : Bool) (addr r c : Nat), 0x8000 ≤ addr → c ≤ 7 →
      tilePixel s bank addr r c =
        (vram bank (addr + 2 * r + 1)).toNat / 2 ^ (7 - c) % 2 * 2 + (vram bank (addr + 2 * r)).toNat / 2 ^ (7 - c) % 2) ∧
    (∀ idx : Byte, (bgTileAddr s.video.lcdc idx : Int) =
      if s.video.lcdc.tileData then 0x8000 + 16 * (idx.toNat : Int)
      else 0x9000 + 16 * (if idx.toNat < 128 then (idx.toNat : Int) else idx.toNat - 256)) ∧
    (∀ (pal : BitVec 3) (e : SpriteEntry) (idx : Nat), idx ≤ 3 →
      (s.mode = .dmg → bgColour s pal idx = gray ((s.ioRaw 0x47).toNat / 4 ^ idx % 4) ∧
        objColour s e idx = gray ((if e.dmgPal then s.ioRaw 0x49 else s.ioRaw 0x48).toNat / 4 ^ idx % 4)) ∧
      (s.mode = .cgb → bgColour s pal idx = colour s.video.bgPal pal.toNat idx ∧
        objColour s e idx = colour s.video.objPal e.cgbPal.toNat idx)) ∧
    (∀ l x : Nat,
      (win l x → bgWinPixel s l x = sample (if s.video.lcdc.winMap then 0x9C00 else 0x9800)
        (l - (s.ioRaw 0x4A).toNat) (x + 7 - (s.ioRaw 0x4B).toNat)) ∧
      (¬win l x → s.mode = .cgb ∨ s.video.lcdc.bgEn = true → bgWinPixel s l x =
        sample (if s.video.lcdc.bgMap then 0x9C00 else 0x9800)
          ((l + (s.ioRaw 0x42).toNat) % 256) ((x + (s.ioRaw 0x43).toNat) % 256)) ∧
      (¬win l x → s.mode = .dmg → s.video.lcdc.bgEn = false →
        bgWinPixel s l x = { idx := 0, rgb := s.params.blank, above := false })) ∧
    (∀ (e : SpriteEntry) (l x : Nat),
      let height : Nat := if s.video.lcdc.objSize then 16 else 8
      let left : Int := e.x.toNat - 8
      let top : Int := e.y.toNat - 16
      let row : Nat := (l - top).toNat
      let col : Nat := (x - left).toNat
      let tile : Nat := if s.video.lcdc.objSize then e.tile.toNat / 2 * 2 else e.tile.toNat
      (¬(left ≤ x ∧ x < left + 8) → spriteIndex s e l x = none) ∧
      (left ≤ x → x < left + 8 → top ≤ l → l < top + height →
        spriteIndex s e l x = some (tilePixel s (decide (s.mode = .cgb) && e.bank) (0x8000 + 16 * tile)
          (if e.yflip then height - 1 - row else row) (if e.xflip then 7 - col else col)))) ∧
    ∀ (l x : Nat) (sprites : List SpriteEntry),
      spritePixel s l x sprites =
        (sprites.find? fun e => decide (0 < (spriteIndex s e l x).getD 0)).map fun e =>
          (objColour s e ((spriteIndex s e l x).getD 0), e.below)

/-! ### Reset, the host, the invariant -/

/-- R5, R60, R61, R64, R65, R67 to R69, R523, R532: the state before the first tick, for every launch: `MODE` from the loaded
cartridge's flag, the control state, the interrupt registers, the banks, the Timer, the transfers, the Video unit, every RAM byte 0.
By the model's choice: the cartridge brings what it shows (log entry 8); the launch gives the speed in either `MODE` (log entry 23)
and `MODE` with no cartridge (log entry 24). -/
def Obligations.ResetValues : Prop :=
  ∀ l : Launch,
    let s := State.launch l
    s.cpu.runState = .reset ∧ s.cpu.ime = false ∧ s.cpu.haltBug = false ∧ s.cpu.pendingCycles = 0 ∧
    s.ints.enabled = 0 ∧ s.ints.pending = 0 ∧
    s.banks.bootRomEnabled = l.bootRom.isSome ∧ s.banks.vramBank = 0 ∧ s.banks.wramBank = 1 ∧
    (∀ c, l.cartridge = some c → s.banks.cart = c.visible) ∧ s.doubleSpeed = l.doubleSpeed ∧
    (∀ c, l.cartridge = some c → (s.mode = .dmg ↔ c.flag = .legacyOnly)) ∧ (l.cartridge = none → s.mode = l.modeUnloaded) ∧
    (∀ a, s.mem.vram.read a = 0 ∧ s.mem.cartRam.read a = 0 ∧ s.mem.wram.read a = 0 ∧ s.mem.oam.read a = 0 ∧
      s.mem.io.read a = 0 ∧ s.mem.hram.read a = 0 ∧ s.video.bgPal.read a = 0 ∧ s.video.objPal.read a = 0) ∧
    s.timer = { counter := 0, div := 0, tima := 0, tma := 0, running := false, rate := 0 } ∧
    s.oamDma.active = false ∧ s.hdma.active = false ∧
    s.video.lcdc = Lcdc.ofByte 0x00 ∧ s.video.line = 0 ∧ s.video.lineT = 0 ∧ s.video.mode = .hblank ∧
    s.video.enableDelay = 0 ∧ s.video.coincidence = true ∧ s.video.frontSel = false ∧
    (∀ x y, s.video.front.pixel s.params x y = l.params.blank ∧ s.video.back.pixel s.params x y = l.params.blank) ∧
    s.buttons = 0 ∧ s.fault = none

/-- R62, R63, R521, R522: the first CPU step of every launch does not advance the Timer and fetches from the entry point
with the power-up registers, or with a boot ROM from address 0 with the registers as they were (power-up writes empty, the
default). -/
def Obligations.FirstStepResetsToRunning : Prop :=
  ∀ l : Launch,
    let s := State.launch l
    let p := match s.mode with | .dmg => l.params.powerUpDmg | .cgb => l.params.powerUpCgb
    (l.bootRom = none → p.ioWrites = [] →
      cpuStep s = fetchExecute { s with
        cpu := { s.cpu with
          a := p.a, f := p.f &&& 0xF0, b := p.b, c := p.c, d := p.d, e := p.e, h := p.h, l := p.l, sp := p.sp
          pc := l.params.entryPoint, runState := .running }
        timer := { s.timer with counter := p.tCounter } }) ∧
    (l.bootRom ≠ none → cpuStep s = fetchExecute { s with cpu := { s.cpu with pc := 0x0000, runState := .running } })

/-- Every launch whose loaded bytes are in canonical form satisfies the invariant; `State.reset` does. -/
def Obligations.LaunchSatisfiesInvariant : Prop :=
  State.reset.Inv ∧
  ∀ l : Launch, (∀ m, l.bootRom = some m → Bytes.wf 256 m) →
    (∀ c, l.cartridge = some c → Bytes.wf 16384 c.rom0 ∧ Bytes.wf cartRomSize c.romX) → (State.launch l).Inv

/-- R25, R30, R34, R38, R39, R41, R49, R368: from every state that satisfies the invariant, whatever the host does and whatever
instruction runs, one step gives a state that satisfies it. -/
def Obligations.StepKeepsInvariant : Prop :=
  ∀ s t : State, s.Inv → step s = .next t → t.Inv
end

