-- ==== Sys2Proof/Laws/Bits.lean ====
section
/-! SUPPORT. Byte halves of a word, the packed flag register and the numbers they stand for. -/

namespace Sys2Proof

open Machine

@[simp] theorem word16_toNat (hi lo : Byte) : (word16 hi lo).toNat = hi.toNat * 256 + lo.toNat := by
  have := lo.isLt
  unfold word16
  rw [BitVec.toNat_append, Nat.shiftLeft_eq, Nat.mul_comm, ← Nat.two_pow_add_eq_or_of_lt (by omega),
    Nat.mul_comm]

theorem word16_eq_ofNat (hi lo : Byte) : word16 hi lo = BitVec.ofNat 16 (hi.toNat * 256 + lo.toNat) := by
  rw [← word16_toNat, BitVec.ofNat_toNat, BitVec.setWidth_eq]

theorem hi8_toNat (w : Word) : (hi8 w).toNat = w.toNat / 256 := by
  have := w.isLt
  simp [hi8, Nat.shiftRight_eq_div_pow]
  omega

theorem lo8_toNat (w : Word) : (lo8 w).toNat = w.toNat % 256 := by simp [lo8]

theorem hi8_eq_ofNat (w : Word) : hi8 w = BitVec.ofNat 8 (w.toNat / 256) := by
  apply BitVec.eq_of_toNat_eq
  have := w.isLt
  rw [hi8_toNat]
  simp
  omega

theorem lo8_eq_ofNat (w : Word) : lo8 w = BitVec.ofNat 8 w.toNat := by
  apply BitVec.eq_of_toNat_eq
  rw [lo8_toNat]
  simp

@[simp] theorem word16_hi8_lo8 (w : Word) : word16 (hi8 w) (lo8 w) = w := by
  apply BitVec.eq_of_toNat_eq
  rw [word16_toNat, hi8_toNat, lo8_toNat]
  omega

@[simp] theorem hi8_word16 (hi lo : Byte) : hi8 (word16 hi lo) = hi := by
  apply BitVec.eq_of_toNat_eq
  have := lo.isLt
  rw [hi8_toNat, word16_toNat]
  omega

@[simp] theorem lo8_word16 (hi lo : Byte) : lo8 (word16 hi lo) = lo := by
  apply BitVec.eq_of_toNat_eq
  have := lo.isLt
  rw [lo8_toNat, word16_toNat]
  omega

theorem highPage_toNat (o : Byte) : (Machine.highPage o).toNat = 0xFF00 + o.toNat := by
  simp [Machine.highPage]

/-- The sign-extended byte added to a word is the integer sum, narrowed (`spec/30_encoding.md` R150). -/
theorem add_sext8 (w : Word) (b : Byte) : w + sext8 b = BitVec.ofInt 16 (w.toNat + b.toInt) := by
  rw [BitVec.ofInt_add, BitVec.ofInt_natCast, BitVec.ofNat_toNat, BitVec.setWidth_eq]
  rfl

/-- The flag register as a sum of its bits (`spec/10_state.md` R24). -/
theorem packFlags_eq (z n h c : Bool) :
    packFlags z n h c = BitVec.ofNat 8
      ((if z then 0x80 else 0) + (if n then 0x40 else 0) + (if h then 0x20 else 0) + (if c then 0x10 else 0)) := by
  cases z <;> cases n <;> cases h <;> cases c <;> rfl

/-- The packed flags have their low bits 0 (R25). -/
@[simp] theorem packFlags_and (z n h c : Bool) : packFlags z n h c &&& 240#8 = packFlags z n h c := by
  cases z <;> cases n <;> cases h <;> cases c <;> rfl

end Sys2Proof
end

