-- ==== Sys2Proof/Laws/State.lean ====
section
/-! SUPPORT. One lemma for each field of the state and each named update, so that no later proof unfolds a record update. -/

namespace Sys2Proof.Machine


/-! ### `setPc` -/

@[simp] theorem State.setPc_cpu_a (s : State) (v : Word) : (s.setPc v).cpu.a = s.cpu.a := rfl
@[simp] theorem State.setPc_cpu_f (s : State) (v : Word) : (s.setPc v).cpu.f = s.cpu.f := rfl
@[simp] theorem State.setPc_cpu_b (s : State) (v : Word) : (s.setPc v).cpu.b = s.cpu.b := rfl
@[simp] theorem State.setPc_cpu_c (s : State) (v : Word) : (s.setPc v).cpu.c = s.cpu.c := rfl
@[simp] theorem State.setPc_cpu_d (s : State) (v : Word) : (s.setPc v).cpu.d = s.cpu.d := rfl
@[simp] theorem State.setPc_cpu_e (s : State) (v : Word) : (s.setPc v).cpu.e = s.cpu.e := rfl
@[simp] theorem State.setPc_cpu_h (s : State) (v : Word) : (s.setPc v).cpu.h = s.cpu.h := rfl
@[simp] theorem State.setPc_cpu_l (s : State) (v : Word) : (s.setPc v).cpu.l = s.cpu.l := rfl
@[simp] theorem State.setPc_cpu_sp (s : State) (v : Word) : (s.setPc v).cpu.sp = s.cpu.sp := rfl
@[simp] theorem State.setPc_cpu_pc (s : State) (v : Word) : (s.setPc v).cpu.pc = v := rfl
@[simp] theorem State.setPc_cpu_ime (s : State) (v : Word) : (s.setPc v).cpu.ime = s.cpu.ime := rfl
@[simp] theorem State.setPc_cpu_runState (s : State) (v : Word) : (s.setPc v).cpu.runState = s.cpu.runState := rfl
@[simp] theorem State.setPc_cpu_haltBug (s : State) (v : Word) : (s.setPc v).cpu.haltBug = s.cpu.haltBug := rfl
@[simp] theorem State.setPc_cpu_pendingCycles (s : State) (v : Word) : (s.setPc v).cpu.pendingCycles = s.cpu.pendingCycles := rfl
@[simp] theorem State.setPc_cpu_opcodeAddr (s : State) (v : Word) : (s.setPc v).cpu.opcodeAddr = s.cpu.opcodeAddr := rfl
@[simp] theorem State.setPc_params (s : State) (v : Word) : (s.setPc v).params = s.params := rfl
@[simp] theorem State.setPc_mode (s : State) (v : Word) : (s.setPc v).mode = s.mode := rfl
@[simp] theorem State.setPc_bootLoaded (s : State) (v : Word) : (s.setPc v).bootLoaded = s.bootLoaded := rfl
@[simp] theorem State.setPc_cartLoaded (s : State) (v : Word) : (s.setPc v).cartLoaded = s.cartLoaded := rfl
@[simp] theorem State.setPc_doubleSpeed (s : State) (v : Word) : (s.setPc v).doubleSpeed = s.doubleSpeed := rfl
@[simp] theorem State.setPc_ints (s : State) (v : Word) : (s.setPc v).ints = s.ints := rfl
@[simp] theorem State.setPc_banks (s : State) (v : Word) : (s.setPc v).banks = s.banks := rfl
@[simp] theorem State.setPc_mem (s : State) (v : Word) : (s.setPc v).mem = s.mem := rfl
@[simp] theorem State.setPc_timer (s : State) (v : Word) : (s.setPc v).timer = s.timer := rfl
@[simp] theorem State.setPc_oamDma (s : State) (v : Word) : (s.setPc v).oamDma = s.oamDma := rfl
@[simp] theorem State.setPc_hdma (s : State) (v : Word) : (s.setPc v).hdma = s.hdma := rfl
@[simp] theorem State.setPc_video (s : State) (v : Word) : (s.setPc v).video = s.video := rfl
@[simp] theorem State.setPc_buttons (s : State) (v : Word) : (s.setPc v).buttons = s.buttons := rfl
@[simp] theorem State.setPc_fault (s : State) (v : Word) : (s.setPc v).fault = s.fault := rfl
@[simp] theorem State.setPc_host (s : State) (v : Word) : (s.setPc v).host = s.host := rfl
@[simp] theorem State.setPc_freeDraws (s : State) (v : Word) : (s.setPc v).freeDraws = s.freeDraws := rfl

/-! ### `setSp` -/

@[simp] theorem State.setSp_cpu_a (s : State) (v : Word) : (s.setSp v).cpu.a = s.cpu.a := rfl
@[simp] theorem State.setSp_cpu_f (s : State) (v : Word) : (s.setSp v).cpu.f = s.cpu.f := rfl
@[simp] theorem State.setSp_cpu_b (s : State) (v : Word) : (s.setSp v).cpu.b = s.cpu.b := rfl
@[simp] theorem State.setSp_cpu_c (s : State) (v : Word) : (s.setSp v).cpu.c = s.cpu.c := rfl
@[simp] theorem State.setSp_cpu_d (s : State) (v : Word) : (s.setSp v).cpu.d = s.cpu.d := rfl
@[simp] theorem State.setSp_cpu_e (s : State) (v : Word) : (s.setSp v).cpu.e = s.cpu.e := rfl
@[simp] theorem State.setSp_cpu_h (s : State) (v : Word) : (s.setSp v).cpu.h = s.cpu.h := rfl
@[simp] theorem State.setSp_cpu_l (s : State) (v : Word) : (s.setSp v).cpu.l = s.cpu.l := rfl
@[simp] theorem State.setSp_cpu_sp (s : State) (v : Word) : (s.setSp v).cpu.sp = v := rfl
@[simp] theorem State.setSp_cpu_pc (s : State) (v : Word) : (s.setSp v).cpu.pc = s.cpu.pc := rfl
@[simp] theorem State.setSp_cpu_ime (s : State) (v : Word) : (s.setSp v).cpu.ime = s.cpu.ime := rfl
@[simp] theorem State.setSp_cpu_runState (s : State) (v : Word) : (s.setSp v).cpu.runState = s.cpu.runState := rfl
@[simp] theorem State.setSp_cpu_haltBug (s : State) (v : Word) : (s.setSp v).cpu.haltBug = s.cpu.haltBug := rfl
@[simp] theorem State.setSp_cpu_pendingCycles (s : State) (v : Word) : (s.setSp v).cpu.pendingCycles = s.cpu.pendingCycles := rfl
@[simp] theorem State.setSp_cpu_opcodeAddr (s : State) (v : Word) : (s.setSp v).cpu.opcodeAddr = s.cpu.opcodeAddr := rfl
@[simp] theorem State.setSp_params (s : State) (v : Word) : (s.setSp v).params = s.params := rfl
@[simp] theorem State.setSp_mode (s : State) (v : Word) : (s.setSp v).mode = s.mode := rfl
@[simp] theorem State.setSp_bootLoaded (s : State) (v : Word) : (s.setSp v).bootLoaded = s.bootLoaded := rfl
@[simp] theorem State.setSp_cartLoaded (s : State) (v : Word) : (s.setSp v).cartLoaded = s.cartLoaded := rfl
@[simp] theorem State.setSp_doubleSpeed (s : State) (v : Word) : (s.setSp v).doubleSpeed = s.doubleSpeed := rfl
@[simp] theorem State.setSp_ints (s : State) (v : Word) : (s.setSp v).ints = s.ints := rfl
@[simp] theorem State.setSp_banks (s : State) (v : Word) : (s.setSp v).banks = s.banks := rfl
@[simp] theorem State.setSp_mem (s : State) (v : Word) : (s.setSp v).mem = s.mem := rfl
@[simp] theorem State.setSp_timer (s : State) (v : Word) : (s.setSp v).timer = s.timer := rfl
@[simp] theorem State.setSp_oamDma (s : State) (v : Word) : (s.setSp v).oamDma = s.oamDma := rfl
@[simp] theorem State.setSp_hdma (s : State) (v : Word) : (s.setSp v).hdma = s.hdma := rfl
@[simp] theorem State.setSp_video (s : State) (v : Word) : (s.setSp v).video = s.video := rfl
@[simp] theorem State.setSp_buttons (s : State) (v : Word) : (s.setSp v).buttons = s.buttons := rfl
@[simp] theorem State.setSp_fault (s : State) (v : Word) : (s.setSp v).fault = s.fault := rfl
@[simp] theorem State.setSp_host (s : State) (v : Word) : (s.setSp v).host = s.host := rfl
@[simp] theorem State.setSp_freeDraws (s : State) (v : Word) : (s.setSp v).freeDraws = s.freeDraws := rfl

/-! ### `setA` -/

@[simp] theorem State.setA_cpu_a (s : State) (v : Byte) : (s.setA v).cpu.a = v := rfl
@[simp] theorem State.setA_cpu_f (s : State) (v : Byte) : (s.setA v).cpu.f = s.cpu.f := rfl
@[simp] theorem State.setA_cpu_b (s : State) (v : Byte) : (s.setA v).cpu.b = s.cpu.b := rfl
@[simp] theorem State.setA_cpu_c (s : State) (v : Byte) : (s.setA v).cpu.c = s.cpu.c := rfl
@[simp] theorem State.setA_cpu_d (s : State) (v : Byte) : (s.setA v).cpu.d = s.cpu.d := rfl
@[simp] theorem State.setA_cpu_e (s : State) (v : Byte) : (s.setA v).cpu.e = s.cpu.e := rfl
@[simp] theorem State.setA_cpu_h (s : State) (v : Byte) : (s.setA v).cpu.h = s.cpu.h := rfl
@[simp] theorem State.setA_cpu_l (s : State) (v : Byte) : (s.setA v).cpu.l = s.cpu.l := rfl
@[simp] theorem State.setA_cpu_sp (s : State) (v : Byte) : (s.setA v).cpu.sp = s.cpu.sp := rfl
@[simp] theorem State.setA_cpu_pc (s : State) (v : Byte) : (s.setA v).cpu.pc = s.cpu.pc := rfl
@[simp] theorem State.setA_cpu_ime (s : State) (v : Byte) : (s.setA v).cpu.ime = s.cpu.ime := rfl
@[simp] theorem State.setA_cpu_runState (s : State) (v : Byte) : (s.setA v).cpu.runState = s.cpu.runState := rfl
@[simp] theorem State.setA_cpu_haltBug (s : State) (v : Byte) : (s.setA v).cpu.haltBug = s.cpu.haltBug := rfl
@[simp] theorem State.setA_cpu_pendingCycles (s : State) (v : Byte) : (s.setA v).cpu.pendingCycles = s.cpu.pendingCycles := rfl
@[simp] theorem State.setA_cpu_opcodeAddr (s : State) (v : Byte) : (s.setA v).cpu.opcodeAddr = s.cpu.opcodeAddr := rfl
@[simp] theorem State.setA_params (s : State) (v : Byte) : (s.setA v).params = s.params := rfl
@[simp] theorem State.setA_mode (s : State) (v : Byte) : (s.setA v).mode = s.mode := rfl
@[simp] theorem State.setA_bootLoaded (s : State) (v : Byte) : (s.setA v).bootLoaded = s.bootLoaded := rfl
@[simp] theorem State.setA_cartLoaded (s : State) (v : Byte) : (s.setA v).cartLoaded = s.cartLoaded := rfl
@[simp] theorem State.setA_doubleSpeed (s : State) (v : Byte) : (s.setA v).doubleSpeed = s.doubleSpeed := rfl
@[simp] theorem State.setA_ints (s : State) (v : Byte) : (s.setA v).ints = s.ints := rfl
@[simp] theorem State.setA_banks (s : State) (v : Byte) : (s.setA v).banks = s.banks := rfl
@[simp] theorem State.setA_mem (s : State) (v : Byte) : (s.setA v).mem = s.mem := rfl
@[simp] theorem State.setA_timer (s : State) (v : Byte) : (s.setA v).timer = s.timer := rfl
@[simp] theorem State.setA_oamDma (s : State) (v : Byte) : (s.setA v).oamDma = s.oamDma := rfl
@[simp] theorem State.setA_hdma (s : State) (v : Byte) : (s.setA v).hdma = s.hdma := rfl
@[simp] theorem State.setA_video (s : State) (v : Byte) : (s.setA v).video = s.video := rfl
@[simp] theorem State.setA_buttons (s : State) (v : Byte) : (s.setA v).buttons = s.buttons := rfl
@[simp] theorem State.setA_fault (s : State) (v : Byte) : (s.setA v).fault = s.fault := rfl
@[simp] theorem State.setA_host (s : State) (v : Byte) : (s.setA v).host = s.host := rfl
@[simp] theorem State.setA_freeDraws (s : State) (v : Byte) : (s.setA v).freeDraws = s.freeDraws := rfl

/-! ### `setF` -/

@[simp] theorem State.setF_cpu_a (s : State) (v : Byte) : (s.setF v).cpu.a = s.cpu.a := rfl
@[simp] theorem State.setF_cpu_f (s : State) (v : Byte) : (s.setF v).cpu.f = v &&& 0xF0 := rfl
@[simp] theorem State.setF_cpu_b (s : State) (v : Byte) : (s.setF v).cpu.b = s.cpu.b := rfl
@[simp] theorem State.setF_cpu_c (s : State) (v : Byte) : (s.setF v).cpu.c = s.cpu.c := rfl
@[simp] theorem State.setF_cpu_d (s : State) (v : Byte) : (s.setF v).cpu.d = s.cpu.d := rfl
@[simp] theorem State.setF_cpu_e (s : State) (v : Byte) : (s.setF v).cpu.e = s.cpu.e := rfl
@[simp] theorem State.setF_cpu_h (s : State) (v : Byte) : (s.setF v).cpu.h = s.cpu.h := rfl
@[simp] theorem State.setF_cpu_l (s : State) (v : Byte) : (s.setF v).cpu.l = s.cpu.l := rfl
@[simp] theorem State.setF_cpu_sp (s : State) (v : Byte) : (s.setF v).cpu.sp = s.cpu.sp := rfl
@[simp] theorem State.setF_cpu_pc (s : State) (v : Byte) : (s.setF v).cpu.pc = s.cpu.pc := rfl
@[simp] theorem State.setF_cpu_ime (s : State) (v : Byte) : (s.setF v).cpu.ime = s.cpu.ime := rfl
@[simp] theorem State.setF_cpu_runState (s : State) (v : Byte) : (s.setF v).cpu.runState = s.cpu.runState := rfl
@[simp] theorem State.setF_cpu_haltBug (s : State) (v : Byte) : (s.setF v).cpu.haltBug = s.cpu.haltBug := rfl
@[simp] theorem State.setF_cpu_pendingCycles (s : State) (v : Byte) : (s.setF v).cpu.pendingCycles = s.cpu.pendingCycles := rfl
@[simp] theorem State.setF_cpu_opcodeAddr (s : State) (v : Byte) : (s.setF v).cpu.opcodeAddr = s.cpu.opcodeAddr := rfl
@[simp] theorem State.setF_params (s : State) (v : Byte) : (s.setF v).params = s.params := rfl
@[simp] theorem State.setF_mode (s : State) (v : Byte) : (s.setF v).mode = s.mode := rfl
@[simp] theorem State.setF_bootLoaded (s : State) (v : Byte) : (s.setF v).bootLoaded = s.bootLoaded := rfl
@[simp] theorem State.setF_cartLoaded (s : State) (v : Byte) : (s.setF v).cartLoaded = s.cartLoaded := rfl
@[simp] theorem State.setF_doubleSpeed (s : State) (v : Byte) : (s.setF v).doubleSpeed = s.doubleSpeed := rfl
@[simp] theorem State.setF_ints (s : State) (v : Byte) : (s.setF v).ints = s.ints := rfl
@[simp] theorem State.setF_banks (s : State) (v : Byte) : (s.setF v).banks = s.banks := rfl
@[simp] theorem State.setF_mem (s : State) (v : Byte) : (s.setF v).mem = s.mem := rfl
@[simp] theorem State.setF_timer (s : State) (v : Byte) : (s.setF v).timer = s.timer := rfl
@[simp] theorem State.setF_oamDma (s : State) (v : Byte) : (s.setF v).oamDma = s.oamDma := rfl
@[simp] theorem State.setF_hdma (s : State) (v : Byte) : (s.setF v).hdma = s.hdma := rfl
@[simp] theorem State.setF_video (s : State) (v : Byte) : (s.setF v).video = s.video := rfl
@[simp] theorem State.setF_buttons (s : State) (v : Byte) : (s.setF v).buttons = s.buttons := rfl
@[simp] theorem State.setF_fault (s : State) (v : Byte) : (s.setF v).fault = s.fault := rfl
@[simp] theorem State.setF_host (s : State) (v : Byte) : (s.setF v).host = s.host := rfl
@[simp] theorem State.setF_freeDraws (s : State) (v : Byte) : (s.setF v).freeDraws = s.freeDraws := rfl

/-! ### `setB` -/

@[simp] theorem State.setB_cpu_a (s : State) (v : Byte) : (s.setB v).cpu.a = s.cpu.a := rfl
@[simp] theorem State.setB_cpu_f (s : State) (v : Byte) : (s.setB v).cpu.f = s.cpu.f := rfl
@[simp] theorem State.setB_cpu_b (s : State) (v : Byte) : (s.setB v).cpu.b = v := rfl
@[simp] theorem State.setB_cpu_c (s : State) (v : Byte) : (s.setB v).cpu.c = s.cpu.c := rfl
@[simp] theorem State.setB_cpu_d (s : State) (v : Byte) : (s.setB v).cpu.d = s.cpu.d := rfl
@[simp] theorem State.setB_cpu_e (s : State) (v : Byte) : (s.setB v).cpu.e = s.cpu.e := rfl
@[simp] theorem State.setB_cpu_h (s : State) (v : Byte) : (s.setB v).cpu.h = s.cpu.h := rfl
@[simp] theorem State.setB_cpu_l (s : State) (v : Byte) : (s.setB v).cpu.l = s.cpu.l := rfl
@[simp] theorem State.setB_cpu_sp (s : State) (v : Byte) : (s.setB v).cpu.sp = s.cpu.sp := rfl
@[simp] theorem State.setB_cpu_pc (s : State) (v : Byte) : (s.setB v).cpu.pc = s.cpu.pc := rfl
@[simp] theorem State.setB_cpu_ime (s : State) (v : Byte) : (s.setB v).cpu.ime = s.cpu.ime := rfl
@[simp] theorem State.setB_cpu_runState (s : State) (v : Byte) : (s.setB v).cpu.runState = s.cpu.runState := rfl
@[simp] theorem State.setB_cpu_haltBug (s : State) (v : Byte) : (s.setB v).cpu.haltBug = s.cpu.haltBug := rfl
@[simp] theorem State.setB_cpu_pendingCycles (s : State) (v : Byte) : (s.setB v).cpu.pendingCycles = s.cpu.pendingCycles := rfl
@[simp] theorem State.setB_cpu_opcodeAddr (s : State) (v : Byte) : (s.setB v).cpu.opcodeAddr = s.cpu.opcodeAddr := rfl
@[simp] theorem State.setB_params (s : State) (v : Byte) : (s.setB v).params = s.params := rfl
@[simp] theorem State.setB_mode (s : State) (v : Byte) : (s.setB v).mode = s.mode := rfl
@[simp] theorem State.setB_bootLoaded (s : State) (v : Byte) : (s.setB v).bootLoaded = s.bootLoaded := rfl
@[simp] theorem State.setB_cartLoaded (s : State) (v : Byte) : (s.setB v).cartLoaded = s.cartLoaded := rfl
@[simp] theorem State.setB_doubleSpeed (s : State) (v : Byte) : (s.setB v).doubleSpeed = s.doubleSpeed := rfl
@[simp] theorem State.setB_ints (s : State) (v : Byte) : (s.setB v).ints = s.ints := rfl
@[simp] theorem State.setB_banks (s : State) (v : Byte) : (s.setB v).banks = s.banks := rfl
@[simp] theorem State.setB_mem (s : State) (v : Byte) : (s.setB v).mem = s.mem := rfl
@[simp] theorem State.setB_timer (s : State) (v : Byte) : (s.setB v).timer = s.timer := rfl
@[simp] theorem State.setB_oamDma (s : State) (v : Byte) : (s.setB v).oamDma = s.oamDma := rfl
@[simp] theorem State.setB_hdma (s : State) (v : Byte) : (s.setB v).hdma = s.hdma := rfl
@[simp] theorem State.setB_video (s : State) (v : Byte) : (s.setB v).video = s.video := rfl
@[simp] theorem State.setB_buttons (s : State) (v : Byte) : (s.setB v).buttons = s.buttons := rfl
@[simp] theorem State.setB_fault (s : State) (v : Byte) : (s.setB v).fault = s.fault := rfl
@[simp] theorem State.setB_host (s : State) (v : Byte) : (s.setB v).host = s.host := rfl
@[simp] theorem State.setB_freeDraws (s : State) (v : Byte) : (s.setB v).freeDraws = s.freeDraws := rfl

/-! ### `setC` -/

@[simp] theorem State.setC_cpu_a (s : State) (v : Byte) : (s.setC v).cpu.a = s.cpu.a := rfl
@[simp] theorem State.setC_cpu_f (s : State) (v : Byte) : (s.setC v).cpu.f = s.cpu.f := rfl
@[simp] theorem State.setC_cpu_b (s : State) (v : Byte) : (s.setC v).cpu.b = s.cpu.b := rfl
@[simp] theorem State.setC_cpu_c (s : State) (v : Byte) : (s.setC v).cpu.c = v := rfl
@[simp] theorem State.setC_cpu_d (s : State) (v : Byte) : (s.setC v).cpu.d = s.cpu.d := rfl
@[simp] theorem State.setC_cpu_e (s : State) (v : Byte) : (s.setC v).cpu.e = s.cpu.e := rfl
@[simp] theorem State.setC_cpu_h (s : State) (v : Byte) : (s.setC v).cpu.h = s.cpu.h := rfl
@[simp] theorem State.setC_cpu_l (s : State) (v : Byte) : (s.setC v).cpu.l = s.cpu.l := rfl
@[simp] theorem State.setC_cpu_sp (s : State) (v : Byte) : (s.setC v).cpu.sp = s.cpu.sp := rfl
@[simp] theorem State.setC_cpu_pc (s : State) (v : Byte) : (s.setC v).cpu.pc = s.cpu.pc := rfl
@[simp] theorem State.setC_cpu_ime (s : State) (v : Byte) : (s.setC v).cpu.ime = s.cpu.ime := rfl
@[simp] theorem State.setC_cpu_runState (s : State) (v : Byte) : (s.setC v).cpu.runState = s.cpu.runState := rfl
@[simp] theorem State.setC_cpu_haltBug (s : State) (v : Byte) : (s.setC v).cpu.haltBug = s.cpu.haltBug := rfl
@[simp] theorem State.setC_cpu_pendingCycles (s : State) (v : Byte) : (s.setC v).cpu.pendingCycles = s.cpu.pendingCycles := rfl
@[simp] theorem State.setC_cpu_opcodeAddr (s : State) (v : Byte) : (s.setC v).cpu.opcodeAddr = s.cpu.opcodeAddr := rfl
@[simp] theorem State.setC_params (s : State) (v : Byte) : (s.setC v).params = s.params := rfl
@[simp] theorem State.setC_mode (s : State) (v : Byte) : (s.setC v).mode = s.mode := rfl
@[simp] theorem State.setC_bootLoaded (s : State) (v : Byte) : (s.setC v).bootLoaded = s.bootLoaded := rfl
@[simp] theorem State.setC_cartLoaded (s : State) (v : Byte) : (s.setC v).cartLoaded = s.cartLoaded := rfl
@[simp] theorem State.setC_doubleSpeed (s : State) (v : Byte) : (s.setC v).doubleSpeed = s.doubleSpeed := rfl
@[simp] theorem State.setC_ints (s : State) (v : Byte) : (s.setC v).ints = s.ints := rfl
@[simp] theorem State.setC_banks (s : State) (v : Byte) : (s.setC v).banks = s.banks := rfl
@[simp] theorem State.setC_mem (s : State) (v : Byte) : (s.setC v).mem = s.mem := rfl
@[simp] theorem State.setC_timer (s : State) (v : Byte) : (s.setC v).timer = s.timer := rfl
@[simp] theorem State.setC_oamDma (s : State) (v : Byte) : (s.setC v).oamDma = s.oamDma := rfl
@[simp] theorem State.setC_hdma (s : State) (v : Byte) : (s.setC v).hdma = s.hdma := rfl
@[simp] theorem State.setC_video (s : State) (v : Byte) : (s.setC v).video = s.video := rfl
@[simp] theorem State.setC_buttons (s : State) (v : Byte) : (s.setC v).buttons = s.buttons := rfl
@[simp] theorem State.setC_fault (s : State) (v : Byte) : (s.setC v).fault = s.fault := rfl
@[simp] theorem State.setC_host (s : State) (v : Byte) : (s.setC v).host = s.host := rfl
@[simp] theorem State.setC_freeDraws (s : State) (v : Byte) : (s.setC v).freeDraws = s.freeDraws := rfl

/-! ### `setD` -/

@[simp] theorem State.setD_cpu_a (s : State) (v : Byte) : (s.setD v).cpu.a = s.cpu.a := rfl
@[simp] theorem State.setD_cpu_f (s : State) (v : Byte) : (s.setD v).cpu.f = s.cpu.f := rfl
@[simp] theorem State.setD_cpu_b (s : State) (v : Byte) : (s.setD v).cpu.b = s.cpu.b := rfl
@[simp] theorem State.setD_cpu_c (s : State) (v : Byte) : (s.setD v).cpu.c = s.cpu.c := rfl
@[simp] theorem State.setD_cpu_d (s : State) (v : Byte) : (s.setD v).cpu.d = v := rfl
@[simp] theorem State.setD_cpu_e (s : State) (v : Byte) : (s.setD v).cpu.e = s.cpu.e := rfl
@[simp] theorem State.setD_cpu_h (s : State) (v : Byte) : (s.setD v).cpu.h = s.cpu.h := rfl
@[simp] theorem State.setD_cpu_l (s : State) (v : Byte) : (s.setD v).cpu.l = s.cpu.l := rfl
@[simp] theorem State.setD_cpu_sp (s : State) (v : Byte) : (s.setD v).cpu.sp = s.cpu.sp := rfl
@[simp] theorem State.setD_cpu_pc (s : State) (v : Byte) : (s.setD v).cpu.pc = s.cpu.pc := rfl
@[simp] theorem State.setD_cpu_ime (s : State) (v : Byte) : (s.setD v).cpu.ime = s.cpu.ime := rfl
@[simp] theorem State.setD_cpu_runState (s : State) (v : Byte) : (s.setD v).cpu.runState = s.cpu.runState := rfl
@[simp] theorem State.setD_cpu_haltBug (s : State) (v : Byte) : (s.setD v).cpu.haltBug = s.cpu.haltBug := rfl
@[simp] theorem State.setD_cpu_pendingCycles (s : State) (v : Byte) : (s.setD v).cpu.pendingCycles = s.cpu.pendingCycles := rfl
@[simp] theorem State.setD_cpu_opcodeAddr (s : State) (v : Byte) : (s.setD v).cpu.opcodeAddr = s.cpu.opcodeAddr := rfl
@[simp] theorem State.setD_params (s : State) (v : Byte) : (s.setD v).params = s.params := rfl
@[simp] theorem State.setD_mode (s : State) (v : Byte) : (s.setD v).mode = s.mode := rfl
@[simp] theorem State.setD_bootLoaded (s : State) (v : Byte) : (s.setD v).bootLoaded = s.bootLoaded := rfl
@[simp] theorem State.setD_cartLoaded (s : State) (v : Byte) : (s.setD v).cartLoaded = s.cartLoaded := rfl
@[simp] theorem State.setD_doubleSpeed (s : State) (v : Byte) : (s.setD v).doubleSpeed = s.doubleSpeed := rfl
@[simp] theorem State.setD_ints (s : State) (v : Byte) : (s.setD v).ints = s.ints := rfl
@[simp] theorem State.setD_banks (s : State) (v : Byte) : (s.setD v).banks = s.banks := rfl
@[simp] theorem State.setD_mem (s : State) (v : Byte) : (s.setD v).mem = s.mem := rfl
@[simp] theorem State.setD_timer (s : State) (v : Byte) : (s.setD v).timer = s.timer := rfl
@[simp] theorem State.setD_oamDma (s : State) (v : Byte) : (s.setD v).oamDma = s.oamDma := rfl
@[simp] theorem State.setD_hdma (s : State) (v : Byte) : (s.setD v).hdma = s.hdma := rfl
@[simp] theorem State.setD_video (s : State) (v : Byte) : (s.setD v).video = s.video := rfl
@[simp] theorem State.setD_buttons (s : State) (v : Byte) : (s.setD v).buttons = s.buttons := rfl
@[simp] theorem State.setD_fault (s : State) (v : Byte) : (s.setD v).fault = s.fault := rfl
@[simp] theorem State.setD_host (s : State) (v : Byte) : (s.setD v).host = s.host := rfl
@[simp] theorem State.setD_freeDraws (s : State) (v : Byte) : (s.setD v).freeDraws = s.freeDraws := rfl

/-! ### `setE` -/

@[simp] theorem State.setE_cpu_a (s : State) (v : Byte) : (s.setE v).cpu.a = s.cpu.a := rfl
@[simp] theorem State.setE_cpu_f (s : State) (v : Byte) : (s.setE v).cpu.f = s.cpu.f := rfl
@[simp] theorem State.setE_cpu_b (s : State) (v : Byte) : (s.setE v).cpu.b = s.cpu.b := rfl
@[simp] theorem State.setE_cpu_c (s : State) (v : Byte) : (s.setE v).cpu.c = s.cpu.c := rfl
@[simp] theorem State.setE_cpu_d (s : State) (v : Byte) : (s.setE v).cpu.d = s.cpu.d := rfl
@[simp] theorem State.setE_cpu_e (s : State) (v : Byte) : (s.setE v).cpu.e = v := rfl
@[simp] theorem State.setE_cpu_h (s : State) (v : Byte) : (s.setE v).cpu.h = s.cpu.h := rfl
@[simp] theorem State.setE_cpu_l (s : State) (v : Byte) : (s.setE v).cpu.l = s.cpu.l := rfl
@[simp] theorem State.setE_cpu_sp (s : State) (v : Byte) : (s.setE v).cpu.sp = s.cpu.sp := rfl
@[simp] theorem State.setE_cpu_pc (s : State) (v : Byte) : (s.setE v).cpu.pc = s.cpu.pc := rfl
@[simp] theorem State.setE_cpu_ime (s : State) (v : Byte) : (s.setE v).cpu.ime = s.cpu.ime := rfl
@[simp] theorem State.setE_cpu_runState (s : State) (v : Byte) : (s.setE v).cpu.runState = s.cpu.runState := rfl
@[simp] theorem State.setE_cpu_haltBug (s : State) (v : Byte) : (s.setE v).cpu.haltBug = s.cpu.haltBug := rfl
@[simp] theorem State.setE_cpu_pendingCycles (s : State) (v : Byte) : (s.setE v).cpu.pendingCycles = s.cpu.pendingCycles := rfl
@[simp] theorem State.setE_cpu_opcodeAddr (s : State) (v : Byte) : (s.setE v).cpu.opcodeAddr = s.cpu.opcodeAddr := rfl
@[simp] theorem State.setE_params (s : State) (v : Byte) : (s.setE v).params = s.params := rfl
@[simp] theorem State.setE_mode (s : State) (v : Byte) : (s.setE v).mode = s.mode := rfl
@[simp] theorem State.setE_bootLoaded (s : State) (v : Byte) : (s.setE v).bootLoaded = s.bootLoaded := rfl
@[simp] theorem State.setE_cartLoaded (s : State) (v : Byte) : (s.setE v).cartLoaded = s.cartLoaded := rfl
@[simp] theorem State.setE_doubleSpeed (s : State) (v : Byte) : (s.setE v).doubleSpeed = s.doubleSpeed := rfl
@[simp] theorem State.setE_ints (s : State) (v : Byte) : (s.setE v).ints = s.ints := rfl
@[simp] theorem State.setE_banks (s : State) (v : Byte) : (s.setE v).banks = s.banks := rfl
@[simp] theorem State.setE_mem (s : State) (v : Byte) : (s.setE v).mem = s.mem := rfl
@[simp] theorem State.setE_timer (s : State) (v : Byte) : (s.setE v).timer = s.timer := rfl
@[simp] theorem State.setE_oamDma (s : State) (v : Byte) : (s.setE v).oamDma = s.oamDma := rfl
@[simp] theorem State.setE_hdma (s : State) (v : Byte) : (s.setE v).hdma = s.hdma := rfl
@[simp] theorem State.setE_video (s : State) (v : Byte) : (s.setE v).video = s.video := rfl
@[simp] theorem State.setE_buttons (s : State) (v : Byte) : (s.setE v).buttons = s.buttons := rfl
@[simp] theorem State.setE_fault (s : State) (v : Byte) : (s.setE v).fault = s.fault := rfl
@[simp] theorem State.setE_host (s : State) (v : Byte) : (s.setE v).host = s.host := rfl
@[simp] theorem State.setE_freeDraws (s : State) (v : Byte) : (s.setE v).freeDraws = s.freeDraws := rfl

/-! ### `setH` -/

@[simp] theorem State.setH_cpu_a (s : State) (v : Byte) : (s.setH v).cpu.a = s.cpu.a := rfl
@[simp] theorem State.setH_cpu_f (s : State) (v : Byte) : (s.setH v).cpu.f = s.cpu.f := rfl
@[simp] theorem State.setH_cpu_b (s : State) (v : Byte) : (s.setH v).cpu.b = s.cpu.b := rfl
@[simp] theorem State.setH_cpu_c (s : State) (v : Byte) : (s.setH v).cpu.c = s.cpu.c := rfl
@[simp] theorem State.setH_cpu_d (s : State) (v : Byte) : (s.setH v).cpu.d = s.cpu.d := rfl
@[simp] theorem State.setH_cpu_e (s : State) (v : Byte) : (s.setH v).cpu.e = s.cpu.e := rfl
@[simp] theorem State.setH_cpu_h (s : State) (v : Byte) : (s.setH v).cpu.h = v := rfl
@[simp] theorem State.setH_cpu_l (s : State) (v : Byte) : (s.setH v).cpu.l = s.cpu.l := rfl
@[simp] theorem State.setH_cpu_sp (s : State) (v : Byte) : (s.setH v).cpu.sp = s.cpu.sp := rfl
@[simp] theorem State.setH_cpu_pc (s : State) (v : Byte) : (s.setH v).cpu.pc = s.cpu.pc := rfl
@[simp] theorem State.setH_cpu_ime (s : State) (v : Byte) : (s.setH v).cpu.ime = s.cpu.ime := rfl
@[simp] theorem State.setH_cpu_runState (s : State) (v : Byte) : (s.setH v).cpu.runState = s.cpu.runState := rfl
@[simp] theorem State.setH_cpu_haltBug (s : State) (v : Byte) : (s.setH v).cpu.haltBug = s.cpu.haltBug := rfl
@[simp] theorem State.setH_cpu_pendingCycles (s : State) (v : Byte) : (s.setH v).cpu.pendingCycles = s.cpu.pendingCycles := rfl
@[simp] theorem State.setH_cpu_opcodeAddr (s : State) (v : Byte) : (s.setH v).cpu.opcodeAddr = s.cpu.opcodeAddr := rfl
@[simp] theorem State.setH_params (s : State) (v : Byte) : (s.setH v).params = s.params := rfl
@[simp] theorem State.setH_mode (s : State) (v : Byte) : (s.setH v).mode = s.mode := rfl
@[simp] theorem State.setH_bootLoaded (s : State) (v : Byte) : (s.setH v).bootLoaded = s.bootLoaded := rfl
@[simp] theorem State.setH_cartLoaded (s : State) (v : Byte) : (s.setH v).cartLoaded = s.cartLoaded := rfl
@[simp] theorem State.setH_doubleSpeed (s : State) (v : Byte) : (s.setH v).doubleSpeed = s.doubleSpeed := rfl
@[simp] theorem State.setH_ints (s : State) (v : Byte) : (s.setH v).ints = s.ints := rfl
@[simp] theorem State.setH_banks (s : State) (v : Byte) : (s.setH v).banks = s.banks := rfl
@[simp] theorem State.setH_mem (s : State) (v : Byte) : (s.setH v).mem = s.mem := rfl
@[simp] theorem State.setH_timer (s : State) (v : Byte) : (s.setH v).timer = s.timer := rfl
@[simp] theorem State.setH_oamDma (s : State) (v : Byte) : (s.setH v).oamDma = s.oamDma := rfl
@[simp] theorem State.setH_hdma (s : State) (v : Byte) : (s.setH v).hdma = s.hdma := rfl
@[simp] theorem State.setH_video (s : State) (v : Byte) : (s.setH v).video = s.video := rfl
@[simp] theorem State.setH_buttons (s : State) (v : Byte) : (s.setH v).buttons = s.buttons := rfl
@[simp] theorem State.setH_fault (s : State) (v : Byte) : (s.setH v).fault = s.fault := rfl
@[simp] theorem State.setH_host (s : State) (v : Byte) : (s.setH v).host = s.host := rfl
@[simp] theorem State.setH_freeDraws (s : State) (v : Byte) : (s.setH v).freeDraws = s.freeDraws := rfl

/-! ### `setL` -/

@[simp] theorem State.setL_cpu_a (s : State) (v : Byte) : (s.setL v).cpu.a = s.cpu.a := rfl
@[simp] theorem State.setL_cpu_f (s : State) (v : Byte) : (s.setL v).cpu.f = s.cpu.f := rfl
@[simp] theorem State.setL_cpu_b (s : State) (v : Byte) : (s.setL v).cpu.b = s.cpu.b := rfl
@[simp] theorem State.setL_cpu_c (s : State) (v : Byte) : (s.setL v).cpu.c = s.cpu.c := rfl
@[simp] theorem State.setL_cpu_d (s : State) (v : Byte) : (s.setL v).cpu.d = s.cpu.d := rfl
@[simp] theorem State.setL_cpu_e (s : State) (v : Byte) : (s.setL v).cpu.e = s.cpu.e := rfl
@[simp] theorem State.setL_cpu_h (s : State) (v : Byte) : (s.setL v).cpu.h = s.cpu.h := rfl
@[simp] theorem State.setL_cpu_l (s : State) (v : Byte) : (s.setL v).cpu.l = v := rfl
@[simp] theorem State.setL_cpu_sp (s : State) (v : Byte) : (s.setL v).cpu.sp = s.cpu.sp := rfl
@[simp] theorem State.setL_cpu_pc (s : State) (v : Byte) : (s.setL v).cpu.pc = s.cpu.pc := rfl
@[simp] theorem State.setL_cpu_ime (s : State) (v : Byte) : (s.setL v).cpu.ime = s.cpu.ime := rfl
@[simp] theorem State.setL_cpu_runState (s : State) (v : Byte) : (s.setL v).cpu.runState = s.cpu.runState := rfl
@[simp] theorem State.setL_cpu_haltBug (s : State) (v : Byte) : (s.setL v).cpu.haltBug = s.cpu.haltBug := rfl
@[simp] theorem State.setL_cpu_pendingCycles (s : State) (v : Byte) : (s.setL v).cpu.pendingCycles = s.cpu.pendingCycles := rfl
@[simp] theorem State.setL_cpu_opcodeAddr (s : State) (v : Byte) : (s.setL v).cpu.opcodeAddr = s.cpu.opcodeAddr := rfl
@[simp] theorem State.setL_params (s : State) (v : Byte) : (s.setL v).params = s.params := rfl
@[simp] theorem State.setL_mode (s : State) (v : Byte) : (s.setL v).mode = s.mode := rfl
@[simp] theorem State.setL_bootLoaded (s : State) (v : Byte) : (s.setL v).bootLoaded = s.bootLoaded := rfl
@[simp] theorem State.setL_cartLoaded (s : State) (v : Byte) : (s.setL v).cartLoaded = s.cartLoaded := rfl
@[simp] theorem State.setL_doubleSpeed (s : State) (v : Byte) : (s.setL v).doubleSpeed = s.doubleSpeed := rfl
@[simp] theorem State.setL_ints (s : State) (v : Byte) : (s.setL v).ints = s.ints := rfl
@[simp] theorem State.setL_banks (s : State) (v : Byte) : (s.setL v).banks = s.banks := rfl
@[simp] theorem State.setL_mem (s : State) (v : Byte) : (s.setL v).mem = s.mem := rfl
@[simp] theorem State.setL_timer (s : State) (v : Byte) : (s.setL v).timer = s.timer := rfl
@[simp] theorem State.setL_oamDma (s : State) (v : Byte) : (s.setL v).oamDma = s.oamDma := rfl
@[simp] theorem State.setL_hdma (s : State) (v : Byte) : (s.setL v).hdma = s.hdma := rfl
@[simp] theorem State.setL_video (s : State) (v : Byte) : (s.setL v).video = s.video := rfl
@[simp] theorem State.setL_buttons (s : State) (v : Byte) : (s.setL v).buttons = s.buttons := rfl
@[simp] theorem State.setL_fault (s : State) (v : Byte) : (s.setL v).fault = s.fault := rfl
@[simp] theorem State.setL_host (s : State) (v : Byte) : (s.setL v).host = s.host := rfl
@[simp] theorem State.setL_freeDraws (s : State) (v : Byte) : (s.setL v).freeDraws = s.freeDraws := rfl

/-! ### `setIme` -/

@[simp] theorem State.setIme_cpu_a (s : State) (v : Bool) : (s.setIme v).cpu.a = s.cpu.a := rfl
@[simp] theorem State.setIme_cpu_f (s : State) (v : Bool) : (s.setIme v).cpu.f = s.cpu.f := rfl
@[simp] theorem State.setIme_cpu_b (s : State) (v : Bool) : (s.setIme v).cpu.b = s.cpu.b := rfl
@[simp] theorem State.setIme_cpu_c (s : State) (v : Bool) : (s.setIme v).cpu.c = s.cpu.c := rfl
@[simp] theorem State.setIme_cpu_d (s : State) (v : Bool) : (s.setIme v).cpu.d = s.cpu.d := rfl
@[simp] theorem State.setIme_cpu_e (s : State) (v : Bool) : (s.setIme v).cpu.e = s.cpu.e := rfl
@[simp] theorem State.setIme_cpu_h (s : State) (v : Bool) : (s.setIme v).cpu.h = s.cpu.h := rfl
@[simp] theorem State.setIme_cpu_l (s : State) (v : Bool) : (s.setIme v).cpu.l = s.cpu.l := rfl
@[simp] theorem State.setIme_cpu_sp (s : State) (v : Bool) : (s.setIme v).cpu.sp = s.cpu.sp := rfl
@[simp] theorem State.setIme_cpu_pc (s : State) (v : Bool) : (s.setIme v).cpu.pc = s.cpu.pc := rfl
@[simp] theorem State.setIme_cpu_ime (s : State) (v : Bool) : (s.setIme v).cpu.ime = v := rfl
@[simp] theorem State.setIme_cpu_runState (s : State) (v : Bool) : (s.setIme v).cpu.runState = s.cpu.runState := rfl
@[simp] theorem State.setIme_cpu_haltBug (s : State) (v : Bool) : (s.setIme v).cpu.haltBug = s.cpu.haltBug := rfl
@[simp] theorem State.setIme_cpu_pendingCycles (s : State) (v : Bool) : (s.setIme v).cpu.pendingCycles = s.cpu.pendingCycles := rfl
@[simp] theorem State.setIme_cpu_opcodeAddr (s : State) (v : Bool) : (s.setIme v).cpu.opcodeAddr = s.cpu.opcodeAddr := rfl
@[simp] theorem State.setIme_params (s : State) (v : Bool) : (s.setIme v).params = s.params := rfl
@[simp] theorem State.setIme_mode (s : State) (v : Bool) : (s.setIme v).mode = s.mode := rfl
@[simp] theorem State.setIme_bootLoaded (s : State) (v : Bool) : (s.setIme v).bootLoaded = s.bootLoaded := rfl
@[simp] theorem State.setIme_cartLoaded (s : State) (v : Bool) : (s.setIme v).cartLoaded = s.cartLoaded := rfl
@[simp] theorem State.setIme_doubleSpeed (s : State) (v : Bool) : (s.setIme v).doubleSpeed = s.doubleSpeed := rfl
@[simp] theorem State.setIme_ints (s : State) (v : Bool) : (s.setIme v).ints = s.ints := rfl
@[simp] theorem State.setIme_banks (s : State) (v : Bool) : (s.setIme v).banks = s.banks := rfl
@[simp] theorem State.setIme_mem (s : State) (v : Bool) : (s.setIme v).mem = s.mem := rfl
@[simp] theorem State.setIme_timer (s : State) (v : Bool) : (s.setIme v).timer = s.timer := rfl
@[simp] theorem State.setIme_oamDma (s : State) (v : Bool) : (s.setIme v).oamDma = s.oamDma := rfl
@[simp] theorem State.setIme_hdma (s : State) (v : Bool) : (s.setIme v).hdma = s.hdma := rfl
@[simp] theorem State.setIme_video (s : State) (v : Bool) : (s.setIme v).video = s.video := rfl
@[simp] theorem State.setIme_buttons (s : State) (v : Bool) : (s.setIme v).buttons = s.buttons := rfl
@[simp] theorem State.setIme_fault (s : State) (v : Bool) : (s.setIme v).fault = s.fault := rfl
@[simp] theorem State.setIme_host (s : State) (v : Bool) : (s.setIme v).host = s.host := rfl
@[simp] theorem State.setIme_freeDraws (s : State) (v : Bool) : (s.setIme v).freeDraws = s.freeDraws := rfl

/-! ### `setRunState` -/

@[simp] theorem State.setRunState_cpu_a (s : State) (v : RunState) : (s.setRunState v).cpu.a = s.cpu.a := rfl
@[simp] theorem State.setRunState_cpu_f (s : State) (v : RunState) : (s.setRunState v).cpu.f = s.cpu.f := rfl
@[simp] theorem State.setRunState_cpu_b (s : State) (v : RunState) : (s.setRunState v).cpu.b = s.cpu.b := rfl
@[simp] theorem State.setRunState_cpu_c (s : State) (v : RunState) : (s.setRunState v).cpu.c = s.cpu.c := rfl
@[simp] theorem State.setRunState_cpu_d (s : State) (v : RunState) : (s.setRunState v).cpu.d = s.cpu.d := rfl
@[simp] theorem State.setRunState_cpu_e (s : State) (v : RunState) : (s.setRunState v).cpu.e = s.cpu.e := rfl
@[simp] theorem State.setRunState_cpu_h (s : State) (v : RunState) : (s.setRunState v).cpu.h = s.cpu.h := rfl
@[simp] theorem State.setRunState_cpu_l (s : State) (v : RunState) : (s.setRunState v).cpu.l = s.cpu.l := rfl
@[simp] theorem State.setRunState_cpu_sp (s : State) (v : RunState) : (s.setRunState v).cpu.sp = s.cpu.sp := rfl
@[simp] theorem State.setRunState_cpu_pc (s : State) (v : RunState) : (s.setRunState v).cpu.pc = s.cpu.pc := rfl
@[simp] theorem State.setRunState_cpu_ime (s : State) (v : RunState) : (s.setRunState v).cpu.ime = s.cpu.ime := rfl
@[simp] theorem State.setRunState_cpu_runState (s : State) (v : RunState) : (s.setRunState v).cpu.runState = v := rfl
@[simp] theorem State.setRunState_cpu_haltBug (s : State) (v : RunState) : (s.setRunState v).cpu.haltBug = s.cpu.haltBug := rfl
@[simp] theorem State.setRunState_cpu_pendingCycles (s : State) (v : RunState) : (s.setRunState v).cpu.pendingCycles = s.cpu.pendingCycles := rfl
@[simp] theorem State.setRunState_cpu_opcodeAddr (s : State) (v : RunState) : (s.setRunState v).cpu.opcodeAddr = s.cpu.opcodeAddr := rfl
@[simp] theorem State.setRunState_params (s : State) (v : RunState) : (s.setRunState v).params = s.params := rfl
@[simp] theorem State.setRunState_mode (s : State) (v : RunState) : (s.setRunState v).mode = s.mode := rfl
@[simp] theorem State.setRunState_bootLoaded (s : State) (v : RunState) : (s.setRunState v).bootLoaded = s.bootLoaded := rfl
@[simp] theorem State.setRunState_cartLoaded (s : State) (v : RunState) : (s.setRunState v).cartLoaded = s.cartLoaded := rfl
@[simp] theorem State.setRunState_doubleSpeed (s : State) (v : RunState) : (s.setRunState v).doubleSpeed = s.doubleSpeed := rfl
@[simp] theorem State.setRunState_ints (s : State) (v : RunState) : (s.setRunState v).ints = s.ints := rfl
@[simp] theorem State.setRunState_banks (s : State) (v : RunState) : (s.setRunState v).banks = s.banks := rfl
@[simp] theorem State.setRunState_mem (s : State) (v : RunState) : (s.setRunState v).mem = s.mem := rfl
@[simp] theorem State.setRunState_timer (s : State) (v : RunState) : (s.setRunState v).timer = s.timer := rfl
@[simp] theorem State.setRunState_oamDma (s : State) (v : RunState) : (s.setRunState v).oamDma = s.oamDma := rfl
@[simp] theorem State.setRunState_hdma (s : State) (v : RunState) : (s.setRunState v).hdma = s.hdma := rfl
@[simp] theorem State.setRunState_video (s : State) (v : RunState) : (s.setRunState v).video = s.video := rfl
@[simp] theorem State.setRunState_buttons (s : State) (v : RunState) : (s.setRunState v).buttons = s.buttons := rfl
@[simp] theorem State.setRunState_fault (s : State) (v : RunState) : (s.setRunState v).fault = s.fault := rfl
@[simp] theorem State.setRunState_host (s : State) (v : RunState) : (s.setRunState v).host = s.host := rfl
@[simp] theorem State.setRunState_freeDraws (s : State) (v : RunState) : (s.setRunState v).freeDraws = s.freeDraws := rfl

/-! ### `setHaltBug` -/

@[simp] theorem State.setHaltBug_cpu_a (s : State) (v : Bool) : (s.setHaltBug v).cpu.a = s.cpu.a := rfl
@[simp] theorem State.setHaltBug_cpu_f (s : State) (v : Bool) : (s.setHaltBug v).cpu.f = s.cpu.f := rfl
@[simp] theorem State.setHaltBug_cpu_b (s : State) (v : Bool) : (s.setHaltBug v).cpu.b = s.cpu.b := rfl
@[simp] theorem State.setHaltBug_cpu_c (s : State) (v : Bool) : (s.setHaltBug v).cpu.c = s.cpu.c := rfl
@[simp] theorem State.setHaltBug_cpu_d (s : State) (v : Bool) : (s.setHaltBug v).cpu.d = s.cpu.d := rfl
@[simp] theorem State.setHaltBug_cpu_e (s : State) (v : Bool) : (s.setHaltBug v).cpu.e = s.cpu.e := rfl
@[simp] theorem State.setHaltBug_cpu_h (s : State) (v : Bool) : (s.setHaltBug v).cpu.h = s.cpu.h := rfl
@[simp] theorem State.setHaltBug_cpu_l (s : State) (v : Bool) : (s.setHaltBug v).cpu.l = s.cpu.l := rfl
@[simp] theorem State.setHaltBug_cpu_sp (s : State) (v : Bool) : (s.setHaltBug v).cpu.sp = s.cpu.sp := rfl
@[simp] theorem State.setHaltBug_cpu_pc (s : State) (v : Bool) : (s.setHaltBug v).cpu.pc = s.cpu.pc := rfl
@[simp] theorem State.setHaltBug_cpu_ime (s : State) (v : Bool) : (s.setHaltBug v).cpu.ime = s.cpu.ime := rfl
@[simp] theorem State.setHaltBug_cpu_runState (s : State) (v : Bool) : (s.setHaltBug v).cpu.runState = s.cpu.runState := rfl
@[simp] theorem State.setHaltBug_cpu_haltBug (s : State) (v : Bool) : (s.setHaltBug v).cpu.haltBug = v := rfl
@[simp] theorem State.setHaltBug_cpu_pendingCycles (s : State) (v : Bool) : (s.setHaltBug v).cpu.pendingCycles = s.cpu.pendingCycles := rfl
@[simp] theorem State.setHaltBug_cpu_opcodeAddr (s : State) (v : Bool) : (s.setHaltBug v).cpu.opcodeAddr = s.cpu.opcodeAddr := rfl
@[simp] theorem State.setHaltBug_params (s : State) (v : Bool) : (s.setHaltBug v).params = s.params := rfl
@[simp] theorem State.setHaltBug_mode (s : State) (v : Bool) : (s.setHaltBug v).mode = s.mode := rfl
@[simp] theorem State.setHaltBug_bootLoaded (s : State) (v : Bool) : (s.setHaltBug v).bootLoaded = s.bootLoaded := rfl
@[simp] theorem State.setHaltBug_cartLoaded (s : State) (v : Bool) : (s.setHaltBug v).cartLoaded = s.cartLoaded := rfl
@[simp] theorem State.setHaltBug_doubleSpeed (s : State) (v : Bool) : (s.setHaltBug v).doubleSpeed = s.doubleSpeed := rfl
@[simp] theorem State.setHaltBug_ints (s : State) (v : Bool) : (s.setHaltBug v).ints = s.ints := rfl
@[simp] theorem State.setHaltBug_banks (s : State) (v : Bool) : (s.setHaltBug v).banks = s.banks := rfl
@[simp] theorem State.setHaltBug_mem (s : State) (v : Bool) : (s.setHaltBug v).mem = s.mem := rfl
@[simp] theorem State.setHaltBug_timer (s : State) (v : Bool) : (s.setHaltBug v).timer = s.timer := rfl
@[simp] theorem State.setHaltBug_oamDma (s : State) (v : Bool) : (s.setHaltBug v).oamDma = s.oamDma := rfl
@[simp] theorem State.setHaltBug_hdma (s : State) (v : Bool) : (s.setHaltBug v).hdma = s.hdma := rfl
@[simp] theorem State.setHaltBug_video (s : State) (v : Bool) : (s.setHaltBug v).video = s.video := rfl
@[simp] theorem State.setHaltBug_buttons (s : State) (v : Bool) : (s.setHaltBug v).buttons = s.buttons := rfl
@[simp] theorem State.setHaltBug_fault (s : State) (v : Bool) : (s.setHaltBug v).fault = s.fault := rfl
@[simp] theorem State.setHaltBug_host (s : State) (v : Bool) : (s.setHaltBug v).host = s.host := rfl
@[simp] theorem State.setHaltBug_freeDraws (s : State) (v : Bool) : (s.setHaltBug v).freeDraws = s.freeDraws := rfl

/-! ### `setPending` -/

@[simp] theorem State.setPending_cpu_a (s : State) (v : Nat) : (s.setPending v).cpu.a = s.cpu.a := rfl
@[simp] theorem State.setPending_cpu_f (s : State) (v : Nat) : (s.setPending v).cpu.f = s.cpu.f := rfl
@[simp] theorem State.setPending_cpu_b (s : State) (v : Nat) : (s.setPending v).cpu.b = s.cpu.b := rfl
@[simp] theorem State.setPending_cpu_c (s : State) (v : Nat) : (s.setPending v).cpu.c = s.cpu.c := rfl
@[simp] theorem State.setPending_cpu_d (s : State) (v : Nat) : (s.setPending v).cpu.d = s.cpu.d := rfl
@[simp] theorem State.setPending_cpu_e (s : State) (v : Nat) : (s.setPending v).cpu.e = s.cpu.e := rfl
@[simp] theorem State.setPending_cpu_h (s : State) (v : Nat) : (s.setPending v).cpu.h = s.cpu.h := rfl
@[simp] theorem State.setPending_cpu_l (s : State) (v : Nat) : (s.setPending v).cpu.l = s.cpu.l := rfl
@[simp] theorem State.setPending_cpu_sp (s : State) (v : Nat) : (s.setPending v).cpu.sp = s.cpu.sp := rfl
@[simp] theorem State.setPending_cpu_pc (s : State) (v : Nat) : (s.setPending v).cpu.pc = s.cpu.pc := rfl
@[simp] theorem State.setPending_cpu_ime (s : State) (v : Nat) : (s.setPending v).cpu.ime = s.cpu.ime := rfl
@[simp] theorem State.setPending_cpu_runState (s : State) (v : Nat) : (s.setPending v).cpu.runState = s.cpu.runState := rfl
@[simp] theorem State.setPending_cpu_haltBug (s : State) (v : Nat) : (s.setPending v).cpu.haltBug = s.cpu.haltBug := rfl
@[simp] theorem State.setPending_cpu_pendingCycles (s : State) (v : Nat) : (s.setPending v).cpu.pendingCycles = v := rfl
@[simp] theorem State.setPending_cpu_opcodeAddr (s : State) (v : Nat) : (s.setPending v).cpu.opcodeAddr = s.cpu.opcodeAddr := rfl
@[simp] theorem State.setPending_params (s : State) (v : Nat) : (s.setPending v).params = s.params := rfl
@[simp] theorem State.setPending_mode (s : State) (v : Nat) : (s.setPending v).mode = s.mode := rfl
@[simp] theorem State.setPending_bootLoaded (s : State) (v : Nat) : (s.setPending v).bootLoaded = s.bootLoaded := rfl
@[simp] theorem State.setPending_cartLoaded (s : State) (v : Nat) : (s.setPending v).cartLoaded = s.cartLoaded := rfl
@[simp] theorem State.setPending_doubleSpeed (s : State) (v : Nat) : (s.setPending v).doubleSpeed = s.doubleSpeed := rfl
@[simp] theorem State.setPending_ints (s : State) (v : Nat) : (s.setPending v).ints = s.ints := rfl
@[simp] theorem State.setPending_banks (s : State) (v : Nat) : (s.setPending v).banks = s.banks := rfl
@[simp] theorem State.setPending_mem (s : State) (v : Nat) : (s.setPending v).mem = s.mem := rfl
@[simp] theorem State.setPending_timer (s : State) (v : Nat) : (s.setPending v).timer = s.timer := rfl
@[simp] theorem State.setPending_oamDma (s : State) (v : Nat) : (s.setPending v).oamDma = s.oamDma := rfl
@[simp] theorem State.setPending_hdma (s : State) (v : Nat) : (s.setPending v).hdma = s.hdma := rfl
@[simp] theorem State.setPending_video (s : State) (v : Nat) : (s.setPending v).video = s.video := rfl
@[simp] theorem State.setPending_buttons (s : State) (v : Nat) : (s.setPending v).buttons = s.buttons := rfl
@[simp] theorem State.setPending_fault (s : State) (v : Nat) : (s.setPending v).fault = s.fault := rfl
@[simp] theorem State.setPending_host (s : State) (v : Nat) : (s.setPending v).host = s.host := rfl
@[simp] theorem State.setPending_freeDraws (s : State) (v : Nat) : (s.setPending v).freeDraws = s.freeDraws := rfl

/-! ### `setOpcodeAddr` -/

@[simp] theorem State.setOpcodeAddr_cpu_a (s : State) (v : Word) : (s.setOpcodeAddr v).cpu.a = s.cpu.a := rfl
@[simp] theorem State.setOpcodeAddr_cpu_f (s : State) (v : Word) : (s.setOpcodeAddr v).cpu.f = s.cpu.f := rfl
@[simp] theorem State.setOpcodeAddr_cpu_b (s : State) (v : Word) : (s.setOpcodeAddr v).cpu.b = s.cpu.b := rfl
@[simp] theorem State.setOpcodeAddr_cpu_c (s : State) (v : Word) : (s.setOpcodeAddr v).cpu.c = s.cpu.c := rfl
@[simp] theorem State.setOpcodeAddr_cpu_d (s : State) (v : Word) : (s.setOpcodeAddr v).cpu.d = s.cpu.d := rfl
@[simp] theorem State.setOpcodeAddr_cpu_e (s : State) (v : Word) : (s.setOpcodeAddr v).cpu.e = s.cpu.e := rfl
@[simp] theorem State.setOpcodeAddr_cpu_h (s : State) (v : Word) : (s.setOpcodeAddr v).cpu.h = s.cpu.h := rfl
@[simp] theorem State.setOpcodeAddr_cpu_l (s : State) (v : Word) : (s.setOpcodeAddr v).cpu.l = s.cpu.l := rfl
@[simp] theorem State.setOpcodeAddr_cpu_sp (s : State) (v : Word) : (s.setOpcodeAddr v).cpu.sp = s.cpu.sp := rfl
@[simp] theorem State.setOpcodeAddr_cpu_pc (s : State) (v : Word) : (s.setOpcodeAddr v).cpu.pc = s.cpu.pc := rfl
@[simp] theorem State.setOpcodeAddr_cpu_ime (s : State) (v : Word) : (s.setOpcodeAddr v).cpu.ime = s.cpu.ime := rfl
@[simp] theorem State.setOpcodeAddr_cpu_runState (s : State) (v : Word) : (s.setOpcodeAddr v).cpu.runState = s.cpu.runState := rfl
@[simp] theorem State.setOpcodeAddr_cpu_haltBug (s : State) (v : Word) : (s.setOpcodeAddr v).cpu.haltBug = s.cpu.haltBug := rfl
@[simp] theorem State.setOpcodeAddr_cpu_pendingCycles (s : State) (v : Word) : (s.setOpcodeAddr v).cpu.pendingCycles = s.cpu.pendingCycles := rfl
@[simp] theorem State.setOpcodeAddr_cpu_opcodeAddr (s : State) (v : Word) : (s.setOpcodeAddr v).cpu.opcodeAddr = v := rfl
@[simp] theorem State.setOpcodeAddr_params (s : State) (v : Word) : (s.setOpcodeAddr v).params = s.params := rfl
@[simp] theorem State.setOpcodeAddr_mode (s : State) (v : Word) : (s.setOpcodeAddr v).mode = s.mode := rfl
@[simp] theorem State.setOpcodeAddr_bootLoaded (s : State) (v : Word) : (s.setOpcodeAddr v).bootLoaded = s.bootLoaded := rfl
@[simp] theorem State.setOpcodeAddr_cartLoaded (s : State) (v : Word) : (s.setOpcodeAddr v).cartLoaded = s.cartLoaded := rfl
@[simp] theorem State.setOpcodeAddr_doubleSpeed (s : State) (v : Word) : (s.setOpcodeAddr v).doubleSpeed = s.doubleSpeed := rfl
@[simp] theorem State.setOpcodeAddr_ints (s : State) (v : Word) : (s.setOpcodeAddr v).ints = s.ints := rfl
@[simp] theorem State.setOpcodeAddr_banks (s : State) (v : Word) : (s.setOpcodeAddr v).banks = s.banks := rfl
@[simp] theorem State.setOpcodeAddr_mem (s : State) (v : Word) : (s.setOpcodeAddr v).mem = s.mem := rfl
@[simp] theorem State.setOpcodeAddr_timer (s : State) (v : Word) : (s.setOpcodeAddr v).timer = s.timer := rfl
@[simp] theorem State.setOpcodeAddr_oamDma (s : State) (v : Word) : (s.setOpcodeAddr v).oamDma = s.oamDma := rfl
@[simp] theorem State.setOpcodeAddr_hdma (s : State) (v : Word) : (s.setOpcodeAddr v).hdma = s.hdma := rfl
@[simp] theorem State.setOpcodeAddr_video (s : State) (v : Word) : (s.setOpcodeAddr v).video = s.video := rfl
@[simp] theorem State.setOpcodeAddr_buttons (s : State) (v : Word) : (s.setOpcodeAddr v).buttons = s.buttons := rfl
@[simp] theorem State.setOpcodeAddr_fault (s : State) (v : Word) : (s.setOpcodeAddr v).fault = s.fault := rfl
@[simp] theorem State.setOpcodeAddr_host (s : State) (v : Word) : (s.setOpcodeAddr v).host = s.host := rfl
@[simp] theorem State.setOpcodeAddr_freeDraws (s : State) (v : Word) : (s.setOpcodeAddr v).freeDraws = s.freeDraws := rfl

/-! ### `setIF` -/

@[simp] theorem State.setIF_ints_pending (s : State) (v : BitVec 5) : (s.setIF v).ints.pending = v := rfl
@[simp] theorem State.setIF_ints_enabled (s : State) (v : BitVec 5) : (s.setIF v).ints.enabled = s.ints.enabled := rfl
@[simp] theorem State.setIF_params (s : State) (v : BitVec 5) : (s.setIF v).params = s.params := rfl
@[simp] theorem State.setIF_mode (s : State) (v : BitVec 5) : (s.setIF v).mode = s.mode := rfl
@[simp] theorem State.setIF_bootLoaded (s : State) (v : BitVec 5) : (s.setIF v).bootLoaded = s.bootLoaded := rfl
@[simp] theorem State.setIF_cartLoaded (s : State) (v : BitVec 5) : (s.setIF v).cartLoaded = s.cartLoaded := rfl
@[simp] theorem State.setIF_doubleSpeed (s : State) (v : BitVec 5) : (s.setIF v).doubleSpeed = s.doubleSpeed := rfl
@[simp] theorem State.setIF_cpu (s : State) (v : BitVec 5) : (s.setIF v).cpu = s.cpu := rfl
@[simp] theorem State.setIF_banks (s : State) (v : BitVec 5) : (s.setIF v).banks = s.banks := rfl
@[simp] theorem State.setIF_mem (s : State) (v : BitVec 5) : (s.setIF v).mem = s.mem := rfl
@[simp] theorem State.setIF_timer (s : State) (v : BitVec 5) : (s.setIF v).timer = s.timer := rfl
@[simp] theorem State.setIF_oamDma (s : State) (v : BitVec 5) : (s.setIF v).oamDma = s.oamDma := rfl
@[simp] theorem State.setIF_hdma (s : State) (v : BitVec 5) : (s.setIF v).hdma = s.hdma := rfl
@[simp] theorem State.setIF_video (s : State) (v : BitVec 5) : (s.setIF v).video = s.video := rfl
@[simp] theorem State.setIF_buttons (s : State) (v : BitVec 5) : (s.setIF v).buttons = s.buttons := rfl
@[simp] theorem State.setIF_fault (s : State) (v : BitVec 5) : (s.setIF v).fault = s.fault := rfl
@[simp] theorem State.setIF_host (s : State) (v : BitVec 5) : (s.setIF v).host = s.host := rfl
@[simp] theorem State.setIF_freeDraws (s : State) (v : BitVec 5) : (s.setIF v).freeDraws = s.freeDraws := rfl

/-! ### `setIE` -/

@[simp] theorem State.setIE_ints_pending (s : State) (v : BitVec 5) : (s.setIE v).ints.pending = s.ints.pending := rfl
@[simp] theorem State.setIE_ints_enabled (s : State) (v : BitVec 5) : (s.setIE v).ints.enabled = v := rfl
@[simp] theorem State.setIE_params (s : State) (v : BitVec 5) : (s.setIE v).params = s.params := rfl
@[simp] theorem State.setIE_mode (s : State) (v : BitVec 5) : (s.setIE v).mode = s.mode := rfl
@[simp] theorem State.setIE_bootLoaded (s : State) (v : BitVec 5) : (s.setIE v).bootLoaded = s.bootLoaded := rfl
@[simp] theorem State.setIE_cartLoaded (s : State) (v : BitVec 5) : (s.setIE v).cartLoaded = s.cartLoaded := rfl
@[simp] theorem State.setIE_doubleSpeed (s : State) (v : BitVec 5) : (s.setIE v).doubleSpeed = s.doubleSpeed := rfl
@[simp] theorem State.setIE_cpu (s : State) (v : BitVec 5) : (s.setIE v).cpu = s.cpu := rfl
@[simp] theorem State.setIE_banks (s : State) (v : BitVec 5) : (s.setIE v).banks = s.banks := rfl
@[simp] theorem State.setIE_mem (s : State) (v : BitVec 5) : (s.setIE v).mem = s.mem := rfl
@[simp] theorem State.setIE_timer (s : State) (v : BitVec 5) : (s.setIE v).timer = s.timer := rfl
@[simp] theorem State.setIE_oamDma (s : State) (v : BitVec 5) : (s.setIE v).oamDma = s.oamDma := rfl
@[simp] theorem State.setIE_hdma (s : State) (v : BitVec 5) : (s.setIE v).hdma = s.hdma := rfl
@[simp] theorem State.setIE_video (s : State) (v : BitVec 5) : (s.setIE v).video = s.video := rfl
@[simp] theorem State.setIE_buttons (s : State) (v : BitVec 5) : (s.setIE v).buttons = s.buttons := rfl
@[simp] theorem State.setIE_fault (s : State) (v : BitVec 5) : (s.setIE v).fault = s.fault := rfl
@[simp] theorem State.setIE_host (s : State) (v : BitVec 5) : (s.setIE v).host = s.host := rfl
@[simp] theorem State.setIE_freeDraws (s : State) (v : BitVec 5) : (s.setIE v).freeDraws = s.freeDraws := rfl

/-! ### `setMem` -/

@[simp] theorem State.setMem_params (s : State) (v : Memory) : (s.setMem v).params = s.params := rfl
@[simp] theorem State.setMem_mode (s : State) (v : Memory) : (s.setMem v).mode = s.mode := rfl
@[simp] theorem State.setMem_bootLoaded (s : State) (v : Memory) : (s.setMem v).bootLoaded = s.bootLoaded := rfl
@[simp] theorem State.setMem_cartLoaded (s : State) (v : Memory) : (s.setMem v).cartLoaded = s.cartLoaded := rfl
@[simp] theorem State.setMem_doubleSpeed (s : State) (v : Memory) : (s.setMem v).doubleSpeed = s.doubleSpeed := rfl
@[simp] theorem State.setMem_cpu (s : State) (v : Memory) : (s.setMem v).cpu = s.cpu := rfl
@[simp] theorem State.setMem_ints (s : State) (v : Memory) : (s.setMem v).ints = s.ints := rfl
@[simp] theorem State.setMem_banks (s : State) (v : Memory) : (s.setMem v).banks = s.banks := rfl
@[simp] theorem State.setMem_mem (s : State) (v : Memory) : (s.setMem v).mem = v := rfl
@[simp] theorem State.setMem_timer (s : State) (v : Memory) : (s.setMem v).timer = s.timer := rfl
@[simp] theorem State.setMem_oamDma (s : State) (v : Memory) : (s.setMem v).oamDma = s.oamDma := rfl
@[simp] theorem State.setMem_hdma (s : State) (v : Memory) : (s.setMem v).hdma = s.hdma := rfl
@[simp] theorem State.setMem_video (s : State) (v : Memory) : (s.setMem v).video = s.video := rfl
@[simp] theorem State.setMem_buttons (s : State) (v : Memory) : (s.setMem v).buttons = s.buttons := rfl
@[simp] theorem State.setMem_fault (s : State) (v : Memory) : (s.setMem v).fault = s.fault := rfl
@[simp] theorem State.setMem_host (s : State) (v : Memory) : (s.setMem v).host = s.host := rfl
@[simp] theorem State.setMem_freeDraws (s : State) (v : Memory) : (s.setMem v).freeDraws = s.freeDraws := rfl

/-! ### `setBanks` -/

@[simp] theorem State.setBanks_params (s : State) (v : Banks) : (s.setBanks v).params = s.params := rfl
@[simp] theorem State.setBanks_mode (s : State) (v : Banks) : (s.setBanks v).mode = s.mode := rfl
@[simp] theorem State.setBanks_bootLoaded (s : State) (v : Banks) : (s.setBanks v).bootLoaded = s.bootLoaded := rfl
@[simp] theorem State.setBanks_cartLoaded (s : State) (v : Banks) : (s.setBanks v).cartLoaded = s.cartLoaded := rfl
@[simp] theorem State.setBanks_doubleSpeed (s : State) (v : Banks) : (s.setBanks v).doubleSpeed = s.doubleSpeed := rfl
@[simp] theorem State.setBanks_cpu (s : State) (v : Banks) : (s.setBanks v).cpu = s.cpu := rfl
@[simp] theorem State.setBanks_ints (s : State) (v : Banks) : (s.setBanks v).ints = s.ints := rfl
@[simp] theorem State.setBanks_banks (s : State) (v : Banks) : (s.setBanks v).banks = v := rfl
@[simp] theorem State.setBanks_mem (s : State) (v : Banks) : (s.setBanks v).mem = s.mem := rfl
@[simp] theorem State.setBanks_timer (s : State) (v : Banks) : (s.setBanks v).timer = s.timer := rfl
@[simp] theorem State.setBanks_oamDma (s : State) (v : Banks) : (s.setBanks v).oamDma = s.oamDma := rfl
@[simp] theorem State.setBanks_hdma (s : State) (v : Banks) : (s.setBanks v).hdma = s.hdma := rfl
@[simp] theorem State.setBanks_video (s : State) (v : Banks) : (s.setBanks v).video = s.video := rfl
@[simp] theorem State.setBanks_buttons (s : State) (v : Banks) : (s.setBanks v).buttons = s.buttons := rfl
@[simp] theorem State.setBanks_fault (s : State) (v : Banks) : (s.setBanks v).fault = s.fault := rfl
@[simp] theorem State.setBanks_host (s : State) (v : Banks) : (s.setBanks v).host = s.host := rfl
@[simp] theorem State.setBanks_freeDraws (s : State) (v : Banks) : (s.setBanks v).freeDraws = s.freeDraws := rfl

/-! ### `setTimer` -/

@[simp] theorem State.setTimer_params (s : State) (v : Timer) : (s.setTimer v).params = s.params := rfl
@[simp] theorem State.setTimer_mode (s : State) (v : Timer) : (s.setTimer v).mode = s.mode := rfl
@[simp] theorem State.setTimer_bootLoaded (s : State) (v : Timer) : (s.setTimer v).bootLoaded = s.bootLoaded := rfl
@[simp] theorem State.setTimer_cartLoaded (s : State) (v : Timer) : (s.setTimer v).cartLoaded = s.cartLoaded := rfl
@[simp] theorem State.setTimer_doubleSpeed (s : State) (v : Timer) : (s.setTimer v).doubleSpeed = s.doubleSpeed := rfl
@[simp] theorem State.setTimer_cpu (s : State) (v : Timer) : (s.setTimer v).cpu = s.cpu := rfl
@[simp] theorem State.setTimer_ints (s : State) (v : Timer) : (s.setTimer v).ints = s.ints := rfl
@[simp] theorem State.setTimer_banks (s : State) (v : Timer) : (s.setTimer v).banks = s.banks := rfl
@[simp] theorem State.setTimer_mem (s : State) (v : Timer) : (s.setTimer v).mem = s.mem := rfl
@[simp] theorem State.setTimer_timer (s : State) (v : Timer) : (s.setTimer v).timer = v := rfl
@[simp] theorem State.setTimer_oamDma (s : State) (v : Timer) : (s.setTimer v).oamDma = s.oamDma := rfl
@[simp] theorem State.setTimer_hdma (s : State) (v : Timer) : (s.setTimer v).hdma = s.hdma := rfl
@[simp] theorem State.setTimer_video (s : State) (v : Timer) : (s.setTimer v).video = s.video := rfl
@[simp] theorem State.setTimer_buttons (s : State) (v : Timer) : (s.setTimer v).buttons = s.buttons := rfl
@[simp] theorem State.setTimer_fault (s : State) (v : Timer) : (s.setTimer v).fault = s.fault := rfl
@[simp] theorem State.setTimer_host (s : State) (v : Timer) : (s.setTimer v).host = s.host := rfl
@[simp] theorem State.setTimer_freeDraws (s : State) (v : Timer) : (s.setTimer v).freeDraws = s.freeDraws := rfl

/-! ### `setOamDma` -/

@[simp] theorem State.setOamDma_params (s : State) (v : OamTransfer) : (s.setOamDma v).params = s.params := rfl
@[simp] theorem State.setOamDma_mode (s : State) (v : OamTransfer) : (s.setOamDma v).mode = s.mode := rfl
@[simp] theorem State.setOamDma_bootLoaded (s : State) (v : OamTransfer) : (s.setOamDma v).bootLoaded = s.bootLoaded := rfl
@[simp] theorem State.setOamDma_cartLoaded (s : State) (v : OamTransfer) : (s.setOamDma v).cartLoaded = s.cartLoaded := rfl
@[simp] theorem State.setOamDma_doubleSpeed (s : State) (v : OamTransfer) : (s.setOamDma v).doubleSpeed = s.doubleSpeed := rfl
@[simp] theorem State.setOamDma_cpu (s : State) (v : OamTransfer) : (s.setOamDma v).cpu = s.cpu := rfl
@[simp] theorem State.setOamDma_ints (s : State) (v : OamTransfer) : (s.setOamDma v).ints = s.ints := rfl
@[simp] theorem State.setOamDma_banks (s : State) (v : OamTransfer) : (s.setOamDma v).banks = s.banks := rfl
@[simp] theorem State.setOamDma_mem (s : State) (v : OamTransfer) : (s.setOamDma v).mem = s.mem := rfl
@[simp] theorem State.setOamDma_timer (s : State) (v : OamTransfer) : (s.setOamDma v).timer = s.timer := rfl
@[simp] theorem State.setOamDma_oamDma (s : State) (v : OamTransfer) : (s.setOamDma v).oamDma = v := rfl
@[simp] theorem State.setOamDma_hdma (s : State) (v : OamTransfer) : (s.setOamDma v).hdma = s.hdma := rfl
@[simp] theorem State.setOamDma_video (s : State) (v : OamTransfer) : (s.setOamDma v).video = s.video := rfl
@[simp] theorem State.setOamDma_buttons (s : State) (v : OamTransfer) : (s.setOamDma v).buttons = s.buttons := rfl
@[simp] theorem State.setOamDma_fault (s : State) (v : OamTransfer) : (s.setOamDma v).fault = s.fault := rfl
@[simp] theorem State.setOamDma_host (s : State) (v : OamTransfer) : (s.setOamDma v).host = s.host := rfl
@[simp] theorem State.setOamDma_freeDraws (s : State) (v : OamTransfer) : (s.setOamDma v).freeDraws = s.freeDraws := rfl

/-! ### `setHdma` -/

@[simp] theorem State.setHdma_params (s : State) (v : HdmaTransfer) : (s.setHdma v).params = s.params := rfl
@[simp] theorem State.setHdma_mode (s : State) (v : HdmaTransfer) : (s.setHdma v).mode = s.mode := rfl
@[simp] theorem State.setHdma_bootLoaded (s : State) (v : HdmaTransfer) : (s.setHdma v).bootLoaded = s.bootLoaded := rfl
@[simp] theorem State.setHdma_cartLoaded (s : State) (v : HdmaTransfer) : (s.setHdma v).cartLoaded = s.cartLoaded := rfl
@[simp] theorem State.setHdma_doubleSpeed (s : State) (v : HdmaTransfer) : (s.setHdma v).doubleSpeed = s.doubleSpeed := rfl
@[simp] theorem State.setHdma_cpu (s : State) (v : HdmaTransfer) : (s.setHdma v).cpu = s.cpu := rfl
@[simp] theorem State.setHdma_ints (s : State) (v : HdmaTransfer) : (s.setHdma v).ints = s.ints := rfl
@[simp] theorem State.setHdma_banks (s : State) (v : HdmaTransfer) : (s.setHdma v).banks = s.banks := rfl
@[simp] theorem State.setHdma_mem (s : State) (v : HdmaTransfer) : (s.setHdma v).mem = s.mem := rfl
@[simp] theorem State.setHdma_timer (s : State) (v : HdmaTransfer) : (s.setHdma v).timer = s.timer := rfl
@[simp] theorem State.setHdma_oamDma (s : State) (v : HdmaTransfer) : (s.setHdma v).oamDma = s.oamDma := rfl
@[simp] theorem State.setHdma_hdma (s : State) (v : HdmaTransfer) : (s.setHdma v).hdma = v := rfl
@[simp] theorem State.setHdma_video (s : State) (v : HdmaTransfer) : (s.setHdma v).video = s.video := rfl
@[simp] theorem State.setHdma_buttons (s : State) (v : HdmaTransfer) : (s.setHdma v).buttons = s.buttons := rfl
@[simp] theorem State.setHdma_fault (s : State) (v : HdmaTransfer) : (s.setHdma v).fault = s.fault := rfl
@[simp] theorem State.setHdma_host (s : State) (v : HdmaTransfer) : (s.setHdma v).host = s.host := rfl
@[simp] theorem State.setHdma_freeDraws (s : State) (v : HdmaTransfer) : (s.setHdma v).freeDraws = s.freeDraws := rfl

/-! ### `setVideo` -/

@[simp] theorem State.setVideo_params (s : State) (v : Video) : (s.setVideo v).params = s.params := rfl
@[simp] theorem State.setVideo_mode (s : State) (v : Video) : (s.setVideo v).mode = s.mode := rfl
@[simp] theorem State.setVideo_bootLoaded (s : State) (v : Video) : (s.setVideo v).bootLoaded = s.bootLoaded := rfl
@[simp] theorem State.setVideo_cartLoaded (s : State) (v : Video) : (s.setVideo v).cartLoaded = s.cartLoaded := rfl
@[simp] theorem State.setVideo_doubleSpeed (s : State) (v : Video) : (s.setVideo v).doubleSpeed = s.doubleSpeed := rfl
@[simp] theorem State.setVideo_cpu (s : State) (v : Video) : (s.setVideo v).cpu = s.cpu := rfl
@[simp] theorem State.setVideo_ints (s : State) (v : Video) : (s.setVideo v).ints = s.ints := rfl
@[simp] theorem State.setVideo_banks (s : State) (v : Video) : (s.setVideo v).banks = s.banks := rfl
@[simp] theorem State.setVideo_mem (s : State) (v : Video) : (s.setVideo v).mem = s.mem := rfl
@[simp] theorem State.setVideo_timer (s : State) (v : Video) : (s.setVideo v).timer = s.timer := rfl
@[simp] theorem State.setVideo_oamDma (s : State) (v : Video) : (s.setVideo v).oamDma = s.oamDma := rfl
@[simp] theorem State.setVideo_hdma (s : State) (v : Video) : (s.setVideo v).hdma = s.hdma := rfl
@[simp] theorem State.setVideo_video (s : State) (v : Video) : (s.setVideo v).video = v := rfl
@[simp] theorem State.setVideo_buttons (s : State) (v : Video) : (s.setVideo v).buttons = s.buttons := rfl
@[simp] theorem State.setVideo_fault (s : State) (v : Video) : (s.setVideo v).fault = s.fault := rfl
@[simp] theorem State.setVideo_host (s : State) (v : Video) : (s.setVideo v).host = s.host := rfl
@[simp] theorem State.setVideo_freeDraws (s : State) (v : Video) : (s.setVideo v).freeDraws = s.freeDraws := rfl

/-! ### `setButtons` -/

@[simp] theorem State.setButtons_params (s : State) (v : BitVec 8) : (s.setButtons v).params = s.params := rfl
@[simp] theorem State.setButtons_mode (s : State) (v : BitVec 8) : (s.setButtons v).mode = s.mode := rfl
@[simp] theorem State.setButtons_bootLoaded (s : State) (v : BitVec 8) : (s.setButtons v).bootLoaded = s.bootLoaded := rfl
@[simp] theorem State.setButtons_cartLoaded (s : State) (v : BitVec 8) : (s.setButtons v).cartLoaded = s.cartLoaded := rfl
@[simp] theorem State.setButtons_doubleSpeed (s : State) (v : BitVec 8) : (s.setButtons v).doubleSpeed = s.doubleSpeed := rfl
@[simp] theorem State.setButtons_cpu (s : State) (v : BitVec 8) : (s.setButtons v).cpu = s.cpu := rfl
@[simp] theorem State.setButtons_ints (s : State) (v : BitVec 8) : (s.setButtons v).ints = s.ints := rfl
@[simp] theorem State.setButtons_banks (s : State) (v : BitVec 8) : (s.setButtons v).banks = s.banks := rfl
@[simp] theorem State.setButtons_mem (s : State) (v : BitVec 8) : (s.setButtons v).mem = s.mem := rfl
@[simp] theorem State.setButtons_timer (s : State) (v : BitVec 8) : (s.setButtons v).timer = s.timer := rfl
@[simp] theorem State.setButtons_oamDma (s : State) (v : BitVec 8) : (s.setButtons v).oamDma = s.oamDma := rfl
@[simp] theorem State.setButtons_hdma (s : State) (v : BitVec 8) : (s.setButtons v).hdma = s.hdma := rfl
@[simp] theorem State.setButtons_video (s : State) (v : BitVec 8) : (s.setButtons v).video = s.video := rfl
@[simp] theorem State.setButtons_buttons (s : State) (v : BitVec 8) : (s.setButtons v).buttons = v := rfl
@[simp] theorem State.setButtons_fault (s : State) (v : BitVec 8) : (s.setButtons v).fault = s.fault := rfl
@[simp] theorem State.setButtons_host (s : State) (v : BitVec 8) : (s.setButtons v).host = s.host := rfl
@[simp] theorem State.setButtons_freeDraws (s : State) (v : BitVec 8) : (s.setButtons v).freeDraws = s.freeDraws := rfl

/-! ### `setHost` -/

@[simp] theorem State.setHost_params (s : State) (v : List (List HostMove)) : (s.setHost v).params = s.params := rfl
@[simp] theorem State.setHost_mode (s : State) (v : List (List HostMove)) : (s.setHost v).mode = s.mode := rfl
@[simp] theorem State.setHost_bootLoaded (s : State) (v : List (List HostMove)) : (s.setHost v).bootLoaded = s.bootLoaded := rfl
@[simp] theorem State.setHost_cartLoaded (s : State) (v : List (List HostMove)) : (s.setHost v).cartLoaded = s.cartLoaded := rfl
@[simp] theorem State.setHost_doubleSpeed (s : State) (v : List (List HostMove)) : (s.setHost v).doubleSpeed = s.doubleSpeed := rfl
@[simp] theorem State.setHost_cpu (s : State) (v : List (List HostMove)) : (s.setHost v).cpu = s.cpu := rfl
@[simp] theorem State.setHost_ints (s : State) (v : List (List HostMove)) : (s.setHost v).ints = s.ints := rfl
@[simp] theorem State.setHost_banks (s : State) (v : List (List HostMove)) : (s.setHost v).banks = s.banks := rfl
@[simp] theorem State.setHost_mem (s : State) (v : List (List HostMove)) : (s.setHost v).mem = s.mem := rfl
@[simp] theorem State.setHost_timer (s : State) (v : List (List HostMove)) : (s.setHost v).timer = s.timer := rfl
@[simp] theorem State.setHost_oamDma (s : State) (v : List (List HostMove)) : (s.setHost v).oamDma = s.oamDma := rfl
@[simp] theorem State.setHost_hdma (s : State) (v : List (List HostMove)) : (s.setHost v).hdma = s.hdma := rfl
@[simp] theorem State.setHost_video (s : State) (v : List (List HostMove)) : (s.setHost v).video = s.video := rfl
@[simp] theorem State.setHost_buttons (s : State) (v : List (List HostMove)) : (s.setHost v).buttons = s.buttons := rfl
@[simp] theorem State.setHost_fault (s : State) (v : List (List HostMove)) : (s.setHost v).fault = s.fault := rfl
@[simp] theorem State.setHost_host (s : State) (v : List (List HostMove)) : (s.setHost v).host = v := rfl
@[simp] theorem State.setHost_freeDraws (s : State) (v : List (List HostMove)) : (s.setHost v).freeDraws = s.freeDraws := rfl

/-! ### `setFault` -/

@[simp] theorem State.setFault_params (s : State) (v : Fault) : (s.setFault v).params = s.params := rfl
@[simp] theorem State.setFault_mode (s : State) (v : Fault) : (s.setFault v).mode = s.mode := rfl
@[simp] theorem State.setFault_bootLoaded (s : State) (v : Fault) : (s.setFault v).bootLoaded = s.bootLoaded := rfl
@[simp] theorem State.setFault_cartLoaded (s : State) (v : Fault) : (s.setFault v).cartLoaded = s.cartLoaded := rfl
@[simp] theorem State.setFault_doubleSpeed (s : State) (v : Fault) : (s.setFault v).doubleSpeed = s.doubleSpeed := rfl
@[simp] theorem State.setFault_cpu (s : State) (v : Fault) : (s.setFault v).cpu = s.cpu := rfl
@[simp] theorem State.setFault_ints (s : State) (v : Fault) : (s.setFault v).ints = s.ints := rfl
@[simp] theorem State.setFault_banks (s : State) (v : Fault) : (s.setFault v).banks = s.banks := rfl
@[simp] theorem State.setFault_mem (s : State) (v : Fault) : (s.setFault v).mem = s.mem := rfl
@[simp] theorem State.setFault_timer (s : State) (v : Fault) : (s.setFault v).timer = s.timer := rfl
@[simp] theorem State.setFault_oamDma (s : State) (v : Fault) : (s.setFault v).oamDma = s.oamDma := rfl
@[simp] theorem State.setFault_hdma (s : State) (v : Fault) : (s.setFault v).hdma = s.hdma := rfl
@[simp] theorem State.setFault_video (s : State) (v : Fault) : (s.setFault v).video = s.video := rfl
@[simp] theorem State.setFault_buttons (s : State) (v : Fault) : (s.setFault v).buttons = s.buttons := rfl
@[simp] theorem State.setFault_fault (s : State) (v : Fault) : (s.setFault v).fault = some v := rfl
@[simp] theorem State.setFault_host (s : State) (v : Fault) : (s.setFault v).host = s.host := rfl
@[simp] theorem State.setFault_freeDraws (s : State) (v : Fault) : (s.setFault v).freeDraws = s.freeDraws := rfl

/-! ### `drawFree` -/

@[simp] theorem State.drawFree_params (s : State) : s.drawFree.params = s.params := rfl
@[simp] theorem State.drawFree_mode (s : State) : s.drawFree.mode = s.mode := rfl
@[simp] theorem State.drawFree_bootLoaded (s : State) : s.drawFree.bootLoaded = s.bootLoaded := rfl
@[simp] theorem State.drawFree_cartLoaded (s : State) : s.drawFree.cartLoaded = s.cartLoaded := rfl
@[simp] theorem State.drawFree_doubleSpeed (s : State) : s.drawFree.doubleSpeed = s.doubleSpeed := rfl
@[simp] theorem State.drawFree_cpu (s : State) : s.drawFree.cpu = s.cpu := rfl
@[simp] theorem State.drawFree_ints (s : State) : s.drawFree.ints = s.ints := rfl
@[simp] theorem State.drawFree_banks (s : State) : s.drawFree.banks = s.banks := rfl
@[simp] theorem State.drawFree_mem (s : State) : s.drawFree.mem = s.mem := rfl
@[simp] theorem State.drawFree_timer (s : State) : s.drawFree.timer = s.timer := rfl
@[simp] theorem State.drawFree_oamDma (s : State) : s.drawFree.oamDma = s.oamDma := rfl
@[simp] theorem State.drawFree_hdma (s : State) : s.drawFree.hdma = s.hdma := rfl
@[simp] theorem State.drawFree_video (s : State) : s.drawFree.video = s.video := rfl
@[simp] theorem State.drawFree_buttons (s : State) : s.drawFree.buttons = s.buttons := rfl
@[simp] theorem State.drawFree_fault (s : State) : s.drawFree.fault = s.fault := rfl
@[simp] theorem State.drawFree_host (s : State) : s.drawFree.host = s.host := rfl
@[simp] theorem State.drawFree_freeDraws (s : State) : s.drawFree.freeDraws = s.freeDraws + 1 := rfl

/-! ### Operations that can raise a fatal error -/

@[simp] theorem Res.bind_ok {α β : Type} (v : α) (s : State) (f : α → State → Res β) : (Res.ok v s).bind f = f v s := rfl
@[simp] theorem Res.bind_fatal {α β : Type} (s : State) (f : α → State → Res β) : (Res.fatal s).bind f = .fatal s := rfl
@[simp] theorem Res.state_ok {α : Type} (v : α) (s : State) : (Res.ok v s).state = s := rfl
@[simp] theorem Res.state_fatal {α : Type} (s : State) : (Res.fatal s : Res α).state = s := rfl
@[simp] theorem raiseFatal_eq {α : Type} (e : Fault) (s : State) : (raiseFatal e s : Res α) = .fatal (s.setFault e) := rfl

/-- A bind ends well exactly when both parts do. -/
theorem Res.bind_eq_ok {α β : Type} {r : Res α} {f : α → State → Res β} {v : β} {t : State} :
    r.bind f = .ok v t ↔ ∃ a u, r = .ok a u ∧ f a u = .ok v t := by
  cases r <;> simp

/-- A bind ends in a fatal error exactly when its first part does, or its first part ends well and its second does. -/
theorem Res.bind_eq_fatal {α β : Type} {r : Res α} {f : α → State → Res β} {t : State} :
    r.bind f = .fatal t ↔ r = .fatal t ∨ ∃ a u, r = .ok a u ∧ f a u = .fatal t := by
  cases r <;> simp

end Sys2Proof.Machine
end

