-- ==== Sys2Proof/Laws/Exec.lean ====
section
/-! SUPPORT. What `exec` is, by shape: the instructions of one block of the opcode table run the same shared operation, so
that a proof about all 502 needs one case for each shape. -/

namespace Sys2Proof

/-- The blocks of the opcode tables (`spec/30_encoding.md` R156, R157), and the instructions outside them. -/
inductive Shape : Instr → Prop where
  | ld (y : R8) (z : R8) (h : ¬(y = .mHL ∧ z = .mHL)) : Shape (mkLd y z)
  | alu (op : AluOp) (z : R8) : Shape (mkAlu op z)
  | aluImm (op : AluOp) (n : Byte) : Shape (mkAluImm op n)
  | inc8 (y : R8) : Shape (mkInc8 y)
  | dec8 (y : R8) : Shape (mkDec8 y)
  | ldImm (y : R8) (n : Byte) : Shape (mkLdImm y n)
  | ldPairImm (p : R16) (a : Word) : Shape (mkLdPairImm p a)
  | addHl (p : R16) : Shape (mkAddHl p)
  | inc16 (p : R16) : Shape (mkInc16 p)
  | dec16 (p : R16) : Shape (mkDec16 p)
  | storeA (p : R16Mem) : Shape (mkStoreA p)
  | loadA (p : R16Mem) : Shape (mkLoadA p)
  | push (p : R16Stk) : Shape (mkPush p)
  | pop (p : R16Stk) : Shape (mkPop p)
  | jrCc (cc : Cond) (n : Byte) : Shape (mkJrCc cc n)
  | jpCc (cc : Cond) (a : Word) : Shape (mkJpCc cc a)
  | callCc (cc : Cond) (a : Word) : Shape (mkCallCc cc a)
  | retCc (cc : Cond) : Shape (mkRetCc cc)
  | rst (k : Fin 8) : Shape (mkRst k)
  | shift (op : ShiftOp) (z : R8) : Shape (mkShift op z)
  | bit (k : Fin 8) (z : R8) : Shape (mkBit k z)
  | res (k : Fin 8) (z : R8) : Shape (mkRes k z)
  | set (k : Fin 8) (z : R8) : Shape (mkSet k z)
  | nop : Shape .nop
  | rlca : Shape .rlca
  | ld_ma16_SP (a : Word) : Shape (.ld_ma16_SP a)
  | rrca : Shape .rrca
  | stop (pad : Byte) : Shape (.stop pad)
  | rla : Shape .rla
  | jr_e8 (e : Byte) : Shape (.jr_e8 e)
  | rra : Shape .rra
  | daa : Shape .daa
  | cpl : Shape .cpl
  | scf : Shape .scf
  | ccf : Shape .ccf
  | halt : Shape .halt
  | jp_a16 (a : Word) : Shape (.jp_a16 a)
  | ret : Shape .ret
  | prefix_CB : Shape .prefix_CB
  | call_a16 (a : Word) : Shape (.call_a16 a)
  | unknown (op : Byte) : Shape (.unknown op)
  | reti : Shape .reti
  | ldh_ma8_A (o : Byte) : Shape (.ldh_ma8_A o)
  | ld_mC_A : Shape .ld_mC_A
  | add_SP_e8 (e : Byte) : Shape (.add_SP_e8 e)
  | jp_HL : Shape .jp_HL
  | ld_ma16_A (a : Word) : Shape (.ld_ma16_A a)
  | ldh_A_ma8 (o : Byte) : Shape (.ldh_A_ma8 o)
  | ld_A_mC : Shape .ld_A_mC
  | di : Shape .di
  | ld_HL_SPe8 (e : Byte) : Shape (.ld_HL_SPe8 e)
  | ld_SP_HL : Shape .ld_SP_HL
  | ld_A_ma16 (a : Word) : Shape (.ld_A_ma16 a)
  | ei : Shape .ei

/-- Every instruction is of one of the shapes. -/
theorem Instr.shape (i : Instr) : Shape i := by
  cases i with
  | nop => exact .nop
  | ld_BC_d16 n => exact .ldPairImm .bc n
  | ld_mBC_A => exact .storeA .bc
  | inc_BC => exact .inc16 .bc
  | inc_B => exact .inc8 .b
  | dec_B => exact .dec8 .b
  | ld_B_d8 n => exact .ldImm .b n
  | rlca => exact .rlca
  | ld_ma16_SP a => exact .ld_ma16_SP a
  | add_HL_BC => exact .addHl .bc
  | ld_A_mBC => exact .loadA .bc
  | dec_BC => exact .dec16 .bc
  | inc_C => exact .inc8 .c
  | dec_C => exact .dec8 .c
  | ld_C_d8 n => exact .ldImm .c n
  | rrca => exact .rrca
  | stop pad => exact .stop pad
  | ld_DE_d16 n => exact .ldPairImm .de n
  | ld_mDE_A => exact .storeA .de
  | inc_DE => exact .inc16 .de
  | inc_D => exact .inc8 .d
  | dec_D => exact .dec8 .d
  | ld_D_d8 n => exact .ldImm .d n
  | rla => exact .rla
  | jr_e8 e => exact .jr_e8 e
  | add_HL_DE => exact .addHl .de
  | ld_A_mDE => exact .loadA .de
  | dec_DE => exact .dec16 .de
  | inc_E => exact .inc8 .e
  | dec_E => exact .dec8 .e
  | ld_E_d8 n => exact .ldImm .e n
  | rra => exact .rra
  | jr_NZ_e8 e => exact .jrCc .nz e
  | ld_HL_d16 n => exact .ldPairImm .hl n
  | ld_mHLi_A => exact .storeA .hlInc
  | inc_HL => exact .inc16 .hl
  | inc_H => exact .inc8 .h
  | dec_H => exact .dec8 .h
  | ld_H_d8 n => exact .ldImm .h n
  | daa => exact .daa
  | jr_Z_e8 e => exact .jrCc .z e
  | add_HL_HL => exact .addHl .hl
  | ld_A_mHLi => exact .loadA .hlInc
  | dec_HL => exact .dec16 .hl
  | inc_L => exact .inc8 .l
  | dec_L => exact .dec8 .l
  | ld_L_d8 n => exact .ldImm .l n
  | cpl => exact .cpl
  | jr_NC_e8 e => exact .jrCc .nc e
  | ld_SP_d16 n => exact .ldPairImm .sp n
  | ld_mHLd_A => exact .storeA .hlDec
  | inc_SP => exact .inc16 .sp
  | inc_mHL => exact .inc8 .mHL
  | dec_mHL => exact .dec8 .mHL
  | ld_mHL_d8 n => exact .ldImm .mHL n
  | scf => exact .scf
  | jr_C_e8 e => exact .jrCc .c e
  | add_HL_SP => exact .addHl .sp
  | ld_A_mHLd => exact .loadA .hlDec
  | dec_SP => exact .dec16 .sp
  | inc_A => exact .inc8 .a
  | dec_A => exact .dec8 .a
  | ld_A_d8 n => exact .ldImm .a n
  | ccf => exact .ccf
  | ld_B_B => exact .ld .b .b (by decide)
  | ld_B_C => exact .ld .b .c (by decide)
  | ld_B_D => exact .ld .b .d (by decide)
  | ld_B_E => exact .ld .b .e (by decide)
  | ld_B_H => exact .ld .b .h (by decide)
  | ld_B_L => exact .ld .b .l (by decide)
  | ld_B_mHL => exact .ld .b .mHL (by decide)
  | ld_B_A => exact .ld .b .a (by decide)
  | ld_C_B => exact .ld .c .b (by decide)
  | ld_C_C => exact .ld .c .c (by decide)
  | ld_C_D => exact .ld .c .d (by decide)
  | ld_C_E => exact .ld .c .e (by decide)
  | ld_C_H => exact .ld .c .h (by decide)
  | ld_C_L => exact .ld .c .l (by decide)
  | ld_C_mHL => exact .ld .c .mHL (by decide)
  | ld_C_A => exact .ld .c .a (by decide)
  | ld_D_B => exact .ld .d .b (by decide)
  | ld_D_C => exact .ld .d .c (by decide)
  | ld_D_D => exact .ld .d .d (by decide)
  | ld_D_E => exact .ld .d .e (by decide)
  | ld_D_H => exact .ld .d .h (by decide)
  | ld_D_L => exact .ld .d .l (by decide)
  | ld_D_mHL => exact .ld .d .mHL (by decide)
  | ld_D_A => exact .ld .d .a (by decide)
  | ld_E_B => exact .ld .e .b (by decide)
  | ld_E_C => exact .ld .e .c (by decide)
  | ld_E_D => exact .ld .e .d (by decide)
  | ld_E_E => exact .ld .e .e (by decide)
  | ld_E_H => exact .ld .e .h (by decide)
  | ld_E_L => exact .ld .e .l (by decide)
  | ld_E_mHL => exact .ld .e .mHL (by decide)
  | ld_E_A => exact .ld .e .a (by decide)
  | ld_H_B => exact .ld .h .b (by decide)
  | ld_H_C => exact .ld .h .c (by decide)
  | ld_H_D => exact .ld .h .d (by decide)
  | ld_H_E => exact .ld .h .e (by decide)
  | ld_H_H => exact .ld .h .h (by decide)
  | ld_H_L => exact .ld .h .l (by decide)
  | ld_H_mHL => exact .ld .h .mHL (by decide)
  | ld_H_A => exact .ld .h .a (by decide)
  | ld_L_B => exact .ld .l .b (by decide)
  | ld_L_C => exact .ld .l .c (by decide)
  | ld_L_D => exact .ld .l .d (by decide)
  | ld_L_E => exact .ld .l .e (by decide)
  | ld_L_H => exact .ld .l .h (by decide)
  | ld_L_L => exact .ld .l .l (by decide)
  | ld_L_mHL => exact .ld .l .mHL (by decide)
  | ld_L_A => exact .ld .l .a (by decide)
  | ld_mHL_B => exact .ld .mHL .b (by decide)
  | ld_mHL_C => exact .ld .mHL .c (by decide)
  | ld_mHL_D => exact .ld .mHL .d (by decide)
  | ld_mHL_E => exact .ld .mHL .e (by decide)
  | ld_mHL_H => exact .ld .mHL .h (by decide)
  | ld_mHL_L => exact .ld .mHL .l (by decide)
  | halt => exact .halt
  | ld_mHL_A => exact .ld .mHL .a (by decide)
  | ld_A_B => exact .ld .a .b (by decide)
  | ld_A_C => exact .ld .a .c (by decide)
  | ld_A_D => exact .ld .a .d (by decide)
  | ld_A_E => exact .ld .a .e (by decide)
  | ld_A_H => exact .ld .a .h (by decide)
  | ld_A_L => exact .ld .a .l (by decide)
  | ld_A_mHL => exact .ld .a .mHL (by decide)
  | ld_A_A => exact .ld .a .a (by decide)
  | add_A_B => exact .alu .add .b
  | add_A_C => exact .alu .add .c
  | add_A_D => exact .alu .add .d
  | add_A_E => exact .alu .add .e
  | add_A_H => exact .alu .add .h
  | add_A_L => exact .alu .add .l
  | add_A_mHL => exact .alu .add .mHL
  | add_A_A => exact .alu .add .a
  | adc_A_B => exact .alu .adc .b
  | adc_A_C => exact .alu .adc .c
  | adc_A_D => exact .alu .adc .d
  | adc_A_E => exact .alu .adc .e
  | adc_A_H => exact .alu .adc .h
  | adc_A_L => exact .alu .adc .l
  | adc_A_mHL => exact .alu .adc .mHL
  | adc_A_A => exact .alu .adc .a
  | sub_B => exact .alu .sub .b
  | sub_C => exact .alu .sub .c
  | sub_D => exact .alu .sub .d
  | sub_E => exact .alu .sub .e
  | sub_H => exact .alu .sub .h
  | sub_L => exact .alu .sub .l
  | sub_mHL => exact .alu .sub .mHL
  | sub_A => exact .alu .sub .a
  | sbc_A_B => exact .alu .sbc .b
  | sbc_A_C => exact .alu .sbc .c
  | sbc_A_D => exact .alu .sbc .d
  | sbc_A_E => exact .alu .sbc .e
  | sbc_A_H => exact .alu .sbc .h
  | sbc_A_L => exact .alu .sbc .l
  | sbc_A_mHL => exact .alu .sbc .mHL
  | sbc_A_A => exact .alu .sbc .a
  | and_B => exact .alu .and .b
  | and_C => exact .alu .and .c
  | and_D => exact .alu .and .d
  | and_E => exact .alu .and .e
  | and_H => exact .alu .and .h
  | and_L => exact .alu .and .l
  | and_mHL => exact .alu .and .mHL
  | and_A => exact .alu .and .a
  | xor_B => exact .alu .xor .b
  | xor_C => exact .alu .xor .c
  | xor_D => exact .alu .xor .d
  | xor_E => exact .alu .xor .e
  | xor_H => exact .alu .xor .h
  | xor_L => exact .alu .xor .l
  | xor_mHL => exact .alu .xor .mHL
  | xor_A => exact .alu .xor .a
  | or_B => exact .alu .or .b
  | or_C => exact .alu .or .c
  | or_D => exact .alu .or .d
  | or_E => exact .alu .or .e
  | or_H => exact .alu .or .h
  | or_L => exact .alu .or .l
  | or_mHL => exact .alu .or .mHL
  | or_A => exact .alu .or .a
  | cp_B => exact .alu .cp .b
  | cp_C => exact .alu .cp .c
  | cp_D => exact .alu .cp .d
  | cp_E => exact .alu .cp .e
  | cp_H => exact .alu .cp .h
  | cp_L => exact .alu .cp .l
  | cp_mHL => exact .alu .cp .mHL
  | cp_A => exact .alu .cp .a
  | ret_NZ => exact .retCc .nz
  | pop_BC => exact .pop .bc
  | jp_NZ_a16 a => exact .jpCc .nz a
  | jp_a16 a => exact .jp_a16 a
  | call_NZ_a16 a => exact .callCc .nz a
  | push_BC => exact .push .bc
  | add_A_d8 n => exact .aluImm .add n
  | rst_00 => exact .rst 0
  | ret_Z => exact .retCc .z
  | ret => exact .ret
  | jp_Z_a16 a => exact .jpCc .z a
  | prefix_CB => exact .prefix_CB
  | call_Z_a16 a => exact .callCc .z a
  | call_a16 a => exact .call_a16 a
  | adc_A_d8 n => exact .aluImm .adc n
  | rst_08 => exact .rst 1
  | ret_NC => exact .retCc .nc
  | pop_DE => exact .pop .de
  | jp_NC_a16 a => exact .jpCc .nc a
  | unknown op => exact .unknown op
  | call_NC_a16 a => exact .callCc .nc a
  | push_DE => exact .push .de
  | sub_d8 n => exact .aluImm .sub n
  | rst_10 => exact .rst 2
  | ret_C => exact .retCc .c
  | reti => exact .reti
  | jp_C_a16 a => exact .jpCc .c a
  | call_C_a16 a => exact .callCc .c a
  | sbc_A_d8 n => exact .aluImm .sbc n
  | rst_18 => exact .rst 3
  | ldh_ma8_A o => exact .ldh_ma8_A o
  | pop_HL => exact .pop .hl
  | ld_mC_A => exact .ld_mC_A
  | push_HL => exact .push .hl
  | and_d8 n => exact .aluImm .and n
  | rst_20 => exact .rst 4
  | add_SP_e8 e => exact .add_SP_e8 e
  | jp_HL => exact .jp_HL
  | ld_ma16_A a => exact .ld_ma16_A a
  | xor_d8 n => exact .aluImm .xor n
  | rst_28 => exact .rst 5
  | ldh_A_ma8 o => exact .ldh_A_ma8 o
  | pop_AF => exact .pop .af
  | ld_A_mC => exact .ld_A_mC
  | di => exact .di
  | push_AF => exact .push .af
  | or_d8 n => exact .aluImm .or n
  | rst_30 => exact .rst 6
  | ld_HL_SPe8 e => exact .ld_HL_SPe8 e
  | ld_SP_HL => exact .ld_SP_HL
  | ld_A_ma16 a => exact .ld_A_ma16 a
  | ei => exact .ei
  | cp_d8 n => exact .aluImm .cp n
  | rst_38 => exact .rst 7
  | rlc_B => exact .shift .rlc .b
  | rlc_C => exact .shift .rlc .c
  | rlc_D => exact .shift .rlc .d
  | rlc_E => exact .shift .rlc .e
  | rlc_H => exact .shift .rlc .h
  | rlc_L => exact .shift .rlc .l
  | rlc_mHL => exact .shift .rlc .mHL
  | rlc_A => exact .shift .rlc .a
  | rrc_B => exact .shift .rrc .b
  | rrc_C => exact .shift .rrc .c
  | rrc_D => exact .shift .rrc .d
  | rrc_E => exact .shift .rrc .e
  | rrc_H => exact .shift .rrc .h
  | rrc_L => exact .shift .rrc .l
  | rrc_mHL => exact .shift .rrc .mHL
  | rrc_A => exact .shift .rrc .a
  | rl_B => exact .shift .rl .b
  | rl_C => exact .shift .rl .c
  | rl_D => exact .shift .rl .d
  | rl_E => exact .shift .rl .e
  | rl_H => exact .shift .rl .h
  | rl_L => exact .shift .rl .l
  | rl_mHL => exact .shift .rl .mHL
  | rl_A => exact .shift .rl .a
  | rr_B => exact .shift .rr .b
  | rr_C => exact .shift .rr .c
  | rr_D => exact .shift .rr .d
  | rr_E => exact .shift .rr .e
  | rr_H => exact .shift .rr .h
  | rr_L => exact .shift .rr .l
  | rr_mHL => exact .shift .rr .mHL
  | rr_A => exact .shift .rr .a
  | sla_B => exact .shift .sla .b
  | sla_C => exact .shift .sla .c
  | sla_D => exact .shift .sla .d
  | sla_E => exact .shift .sla .e
  | sla_H => exact .shift .sla .h
  | sla_L => exact .shift .sla .l
  | sla_mHL => exact .shift .sla .mHL
  | sla_A => exact .shift .sla .a
  | sra_B => exact .shift .sra .b
  | sra_C => exact .shift .sra .c
  | sra_D => exact .shift .sra .d
  | sra_E => exact .shift .sra .e
  | sra_H => exact .shift .sra .h
  | sra_L => exact .shift .sra .l
  | sra_mHL => exact .shift .sra .mHL
  | sra_A => exact .shift .sra .a
  | swap_B => exact .shift .swap .b
  | swap_C => exact .shift .swap .c
  | swap_D => exact .shift .swap .d
  | swap_E => exact .shift .swap .e
  | swap_H => exact .shift .swap .h
  | swap_L => exact .shift .swap .l
  | swap_mHL => exact .shift .swap .mHL
  | swap_A => exact .shift .swap .a
  | srl_B => exact .shift .srl .b
  | srl_C => exact .shift .srl .c
  | srl_D => exact .shift .srl .d
  | srl_E => exact .shift .srl .e
  | srl_H => exact .shift .srl .h
  | srl_L => exact .shift .srl .l
  | srl_mHL => exact .shift .srl .mHL
  | srl_A => exact .shift .srl .a
  | bit_0_B => exact .bit 0 .b
  | bit_0_C => exact .bit 0 .c
  | bit_0_D => exact .bit 0 .d
  | bit_0_E => exact .bit 0 .e
  | bit_0_H => exact .bit 0 .h
  | bit_0_L => exact .bit 0 .l
  | bit_0_mHL => exact .bit 0 .mHL
  | bit_0_A => exact .bit 0 .a
  | bit_1_B => exact .bit 1 .b
  | bit_1_C => exact .bit 1 .c
  | bit_1_D => exact .bit 1 .d
  | bit_1_E => exact .bit 1 .e
  | bit_1_H => exact .bit 1 .h
  | bit_1_L => exact .bit 1 .l
  | bit_1_mHL => exact .bit 1 .mHL
  | bit_1_A => exact .bit 1 .a
  | bit_2_B => exact .bit 2 .b
  | bit_2_C => exact .bit 2 .c
  | bit_2_D => exact .bit 2 .d
  | bit_2_E => exact .bit 2 .e
  | bit_2_H => exact .bit 2 .h
  | bit_2_L => exact .bit 2 .l
  | bit_2_mHL => exact .bit 2 .mHL
  | bit_2_A => exact .bit 2 .a
  | bit_3_B => exact .bit 3 .b
  | bit_3_C => exact .bit 3 .c
  | bit_3_D => exact .bit 3 .d
  | bit_3_E => exact .bit 3 .e
  | bit_3_H => exact .bit 3 .h
  | bit_3_L => exact .bit 3 .l
  | bit_3_mHL => exact .bit 3 .mHL
  | bit_3_A => exact .bit 3 .a
  | bit_4_B => exact .bit 4 .b
  | bit_4_C => exact .bit 4 .c
  | bit_4_D => exact .bit 4 .d
  | bit_4_E => exact .bit 4 .e
  | bit_4_H => exact .bit 4 .h
  | bit_4_L => exact .bit 4 .l
  | bit_4_mHL => exact .bit 4 .mHL
  | bit_4_A => exact .bit 4 .a
  | bit_5_B => exact .bit 5 .b
  | bit_5_C => exact .bit 5 .c
  | bit_5_D => exact .bit 5 .d
  | bit_5_E => exact .bit 5 .e
  | bit_5_H => exact .bit 5 .h
  | bit_5_L => exact .bit 5 .l
  | bit_5_mHL => exact .bit 5 .mHL
  | bit_5_A => exact .bit 5 .a
  | bit_6_B => exact .bit 6 .b
  | bit_6_C => exact .bit 6 .c
  | bit_6_D => exact .bit 6 .d
  | bit_6_E => exact .bit 6 .e
  | bit_6_H => exact .bit 6 .h
  | bit_6_L => exact .bit 6 .l
  | bit_6_mHL => exact .bit 6 .mHL
  | bit_6_A => exact .bit 6 .a
  | bit_7_B => exact .bit 7 .b
  | bit_7_C => exact .bit 7 .c
  | bit_7_D => exact .bit 7 .d
  | bit_7_E => exact .bit 7 .e
  | bit_7_H => exact .bit 7 .h
  | bit_7_L => exact .bit 7 .l
  | bit_7_mHL => exact .bit 7 .mHL
  | bit_7_A => exact .bit 7 .a
  | res_0_B => exact .res 0 .b
  | res_0_C => exact .res 0 .c
  | res_0_D => exact .res 0 .d
  | res_0_E => exact .res 0 .e
  | res_0_H => exact .res 0 .h
  | res_0_L => exact .res 0 .l
  | res_0_mHL => exact .res 0 .mHL
  | res_0_A => exact .res 0 .a
  | res_1_B => exact .res 1 .b
  | res_1_C => exact .res 1 .c
  | res_1_D => exact .res 1 .d
  | res_1_E => exact .res 1 .e
  | res_1_H => exact .res 1 .h
  | res_1_L => exact .res 1 .l
  | res_1_mHL => exact .res 1 .mHL
  | res_1_A => exact .res 1 .a
  | res_2_B => exact .res 2 .b
  | res_2_C => exact .res 2 .c
  | res_2_D => exact .res 2 .d
  | res_2_E => exact .res 2 .e
  | res_2_H => exact .res 2 .h
  | res_2_L => exact .res 2 .l
  | res_2_mHL => exact .res 2 .mHL
  | res_2_A => exact .res 2 .a
  | res_3_B => exact .res 3 .b
  | res_3_C => exact .res 3 .c
  | res_3_D => exact .res 3 .d
  | res_3_E => exact .res 3 .e
  | res_3_H => exact .res 3 .h
  | res_3_L => exact .res 3 .l
  | res_3_mHL => exact .res 3 .mHL
  | res_3_A => exact .res 3 .a
  | res_4_B => exact .res 4 .b
  | res_4_C => exact .res 4 .c
  | res_4_D => exact .res 4 .d
  | res_4_E => exact .res 4 .e
  | res_4_H => exact .res 4 .h
  | res_4_L => exact .res 4 .l
  | res_4_mHL => exact .res 4 .mHL
  | res_4_A => exact .res 4 .a
  | res_5_B => exact .res 5 .b
  | res_5_C => exact .res 5 .c
  | res_5_D => exact .res 5 .d
  | res_5_E => exact .res 5 .e
  | res_5_H => exact .res 5 .h
  | res_5_L => exact .res 5 .l
  | res_5_mHL => exact .res 5 .mHL
  | res_5_A => exact .res 5 .a
  | res_6_B => exact .res 6 .b
  | res_6_C => exact .res 6 .c
  | res_6_D => exact .res 6 .d
  | res_6_E => exact .res 6 .e
  | res_6_H => exact .res 6 .h
  | res_6_L => exact .res 6 .l
  | res_6_mHL => exact .res 6 .mHL
  | res_6_A => exact .res 6 .a
  | res_7_B => exact .res 7 .b
  | res_7_C => exact .res 7 .c
  | res_7_D => exact .res 7 .d
  | res_7_E => exact .res 7 .e
  | res_7_H => exact .res 7 .h
  | res_7_L => exact .res 7 .l
  | res_7_mHL => exact .res 7 .mHL
  | res_7_A => exact .res 7 .a
  | set_0_B => exact .set 0 .b
  | set_0_C => exact .set 0 .c
  | set_0_D => exact .set 0 .d
  | set_0_E => exact .set 0 .e
  | set_0_H => exact .set 0 .h
  | set_0_L => exact .set 0 .l
  | set_0_mHL => exact .set 0 .mHL
  | set_0_A => exact .set 0 .a
  | set_1_B => exact .set 1 .b
  | set_1_C => exact .set 1 .c
  | set_1_D => exact .set 1 .d
  | set_1_E => exact .set 1 .e
  | set_1_H => exact .set 1 .h
  | set_1_L => exact .set 1 .l
  | set_1_mHL => exact .set 1 .mHL
  | set_1_A => exact .set 1 .a
  | set_2_B => exact .set 2 .b
  | set_2_C => exact .set 2 .c
  | set_2_D => exact .set 2 .d
  | set_2_E => exact .set 2 .e
  | set_2_H => exact .set 2 .h
  | set_2_L => exact .set 2 .l
  | set_2_mHL => exact .set 2 .mHL
  | set_2_A => exact .set 2 .a
  | set_3_B => exact .set 3 .b
  | set_3_C => exact .set 3 .c
  | set_3_D => exact .set 3 .d
  | set_3_E => exact .set 3 .e
  | set_3_H => exact .set 3 .h
  | set_3_L => exact .set 3 .l
  | set_3_mHL => exact .set 3 .mHL
  | set_3_A => exact .set 3 .a
  | set_4_B => exact .set 4 .b
  | set_4_C => exact .set 4 .c
  | set_4_D => exact .set 4 .d
  | set_4_E => exact .set 4 .e
  | set_4_H => exact .set 4 .h
  | set_4_L => exact .set 4 .l
  | set_4_mHL => exact .set 4 .mHL
  | set_4_A => exact .set 4 .a
  | set_5_B => exact .set 5 .b
  | set_5_C => exact .set 5 .c
  | set_5_D => exact .set 5 .d
  | set_5_E => exact .set 5 .e
  | set_5_H => exact .set 5 .h
  | set_5_L => exact .set 5 .l
  | set_5_mHL => exact .set 5 .mHL
  | set_5_A => exact .set 5 .a
  | set_6_B => exact .set 6 .b
  | set_6_C => exact .set 6 .c
  | set_6_D => exact .set 6 .d
  | set_6_E => exact .set 6 .e
  | set_6_H => exact .set 6 .h
  | set_6_L => exact .set 6 .l
  | set_6_mHL => exact .set 6 .mHL
  | set_6_A => exact .set 6 .a
  | set_7_B => exact .set 7 .b
  | set_7_C => exact .set 7 .c
  | set_7_D => exact .set 7 .d
  | set_7_E => exact .set 7 .e
  | set_7_H => exact .set 7 .h
  | set_7_L => exact .set 7 .l
  | set_7_mHL => exact .set 7 .mHL
  | set_7_A => exact .set 7 .a

namespace Machine

/-- R200 to R202. -/
theorem exec_mkLd (y : R8) (z : R8) (h : ¬(y = .mHL ∧ z = .mHL)) (s : State) :
    exec (mkLd y z) s = finish (if y = .mHL ∨ z = .mHL then 2 else 1) (ld y z s) := by
  cases y <;> cases z <;> first | rfl | exact absurd ⟨rfl, rfl⟩ h

/-- R267. -/
theorem exec_mkAlu (op : AluOp) (z : R8) (s : State) :
    exec (mkAlu op z) s = finish (if z = .mHL then 2 else 1) (aluR8 op z s) := by
  cases op <;> cases z <;> rfl

/-- R267. -/
theorem exec_mkAluImm (op : AluOp) (n : Byte) (s : State) :
    exec (mkAluImm op n) s = finish 2 (aluImm op n s) := by
  cases op <;> rfl

/-- R259, R260. -/
theorem exec_mkInc8 (y : R8) (s : State) :
    exec (mkInc8 y) s = finish (if y = .mHL then 3 else 1) (stepR8 incResult y s) := by
  cases y <;> rfl

/-- R261, R262. -/
theorem exec_mkDec8 (y : R8) (s : State) :
    exec (mkDec8 y) s = finish (if y = .mHL then 3 else 1) (stepR8 decResult y s) := by
  cases y <;> rfl

/-- R203, R204. -/
theorem exec_mkLdImm (y : R8) (n : Byte) (s : State) :
    exec (mkLdImm y n) s = finish (if y = .mHL then 3 else 2) (ldImm y n s) := by
  cases y <;> rfl

/-- R230. -/
theorem exec_mkLdPairImm (p : R16) (a : Word) (s : State) :
    exec (mkLdPairImm p a) s = finish 3 (.ok () (s.setPair p a)) := by
  cases p <;> rfl

/-- R280. -/
theorem exec_mkAddHl (p : R16) (s : State) :
    exec (mkAddHl p) s = finish 2 (.ok () (addHl p s)) := by
  cases p <;> rfl

/-- R281. -/
theorem exec_mkInc16 (p : R16) (s : State) :
    exec (mkInc16 p) s = finish 2 (.ok () (s.setPair p (s.pair p + 1))) := by
  cases p <;> rfl

/-- R282. -/
theorem exec_mkDec16 (p : R16) (s : State) :
    exec (mkDec16 p) s = finish 2 (.ok () (s.setPair p (s.pair p - 1))) := by
  cases p <;> rfl

/-- R207, R208, R215, R216. -/
theorem exec_mkStoreA (p : R16Mem) (s : State) :
    exec (mkStoreA p) s = finish 2 (storeAPtr p s) := by
  cases p <;> rfl

/-- R205, R206, R217, R218. -/
theorem exec_mkLoadA (p : R16Mem) (s : State) :
    exec (mkLoadA p) s = finish 2 (loadAPtr p s) := by
  cases p <;> rfl

/-- R234. -/
theorem exec_mkPush (p : R16Stk) (s : State) :
    exec (mkPush p) s = finish 4 (push16 (s.stkPair p) s) := by
  cases p <;> rfl

/-- R235, R236. -/
theorem exec_mkPop (p : R16Stk) (s : State) :
    exec (mkPop p) s = finish 3 ((pop16 s).bind fun v s => .ok () (s.setStkPair p v)) := by
  cases p <;> rfl

/-- R325. -/
theorem exec_mkJrCc (cc : Cond) (n : Byte) (s : State) :
    exec (mkJrCc cc n) s = finishWith (whenCond cc 3 2 (fun s => .ok () (jumpRelative n s)) s) := by
  cases cc <;> rfl

/-- R322. -/
theorem exec_mkJpCc (cc : Cond) (a : Word) (s : State) :
    exec (mkJpCc cc a) s = finishWith (whenCond cc 4 3 (fun s => .ok () (s.setPc a)) s) := by
  cases cc <;> rfl

/-- R327. -/
theorem exec_mkCallCc (cc : Cond) (a : Word) (s : State) :
    exec (mkCallCc cc a) s = finishWith (whenCond cc 6 3 (callTo a) s) := by
  cases cc <;> rfl

/-- R329. -/
theorem exec_mkRetCc (cc : Cond) (s : State) :
    exec (mkRetCc cc) s = finishWith (whenCond cc 5 2 ret s) := by
  cases cc <;> rfl

/-- R331. -/
theorem exec_mkRst (k : Fin 8) (s : State) :
    exec (mkRst k) s = finish 4 (callTo (BitVec.ofNat 16 (8 * k)) s) := by
  match k with
  | 0 | 1 | 2 | 3 | 4 | 5 | 6 | 7 => rfl

/-- R295 to R302. -/
theorem exec_mkShift (op : ShiftOp) (z : R8) (s : State) :
    exec (mkShift op z) s = finish (if z = .mHL then 4 else 2) (shiftR8 op z s) := by
  cases op <;> cases z <;> rfl

/-- R303. -/
theorem exec_mkBit (k : Fin 8) (z : R8) (s : State) :
    exec (mkBit k z) s = finish (if z = .mHL then 3 else 2) (bitR8 k z s) := by
  match k with
  | 0 | 1 | 2 | 3 | 4 | 5 | 6 | 7 => cases z <;> rfl

/-- R304. -/
theorem exec_mkRes (k : Fin 8) (z : R8) (s : State) :
    exec (mkRes k z) s = finish (if z = .mHL then 4 else 2) (resR8 k z s) := by
  match k with
  | 0 | 1 | 2 | 3 | 4 | 5 | 6 | 7 => cases z <;> rfl

/-- R305. -/
theorem exec_mkSet (k : Fin 8) (z : R8) (s : State) :
    exec (mkSet k z) s = finish (if z = .mHL then 4 else 2) (setR8 k z s) := by
  match k with
  | 0 | 1 | 2 | 3 | 4 | 5 | 6 | 7 => cases z <;> rfl

end Machine
end Sys2Proof
end

