-- ==== Sys2Proof/Laws/Cells.lean ====
section
/-! SUPPORT. The laws of sparse storage: a read after a write, and the canonical form kept. -/

namespace Sys2Proof.Machine

variable {α : Type} {d : Nat → α}

/-- A key below every listed key reads as unlisted. -/
theorem Cells.read_below {m : List (Nat × α)} {a : Nat} (h : ∀ p ∈ m, a < p.1) : Cells.read d m a = d a := by
  induction m with
  | nil => rfl
  | cons p m ih =>
    have hp := h p (by simp)
    simp only [Cells.read]
    rw [if_neg (by omega)]
    exact ih fun q hq => h q (by simp [hq])

variable [DecidableEq α]

/-- Reading back the key just written, on a store in canonical form. -/
theorem Cells.read_write_same {m : List (Nat × α)} (h : m.Pairwise (fun p q => p.1 < q.1)) (a : Nat) (v : α) :
    Cells.read d (Cells.write d m a v) a = v := by
  induction m with
  | nil => by_cases hv : v = d a <;> simp [Cells.write, Cells.read, hv]
  | cons p m ih =>
    obtain ⟨hp, hm⟩ := List.pairwise_cons.mp h
    obtain ⟨k, w⟩ := p
    simp only [Cells.write]
    split
    · split
      · next hv => rw [Cells.read_below (by simpa using ⟨‹_›, fun b c hb => by have := hp _ hb; simp at this; omega⟩), hv]
      · simp [Cells.read]
    · split
      · next hk =>
        subst hk
        split
        · next hv => rw [Cells.read_below (fun q hq => hp q hq), hv]
        · simp [Cells.read]
      · simp only [Cells.read]
        rw [if_neg (by omega), ih hm]

/-- A write leaves every other key alone, on a store in canonical form. -/
theorem Cells.read_write_other {m : List (Nat × α)} (h : m.Pairwise (fun p q => p.1 < q.1)) {a b : Nat} (hab : b ≠ a)
    (v : α) : Cells.read d (Cells.write d m a v) b = Cells.read d m b := by
  induction m with
  | nil => by_cases hv : v = d a <;> simp [Cells.write, Cells.read, hv, hab.symm]
  | cons p m ih =>
    obtain ⟨hp, hm⟩ := List.pairwise_cons.mp h
    obtain ⟨k, w⟩ := p
    simp only [Cells.write]
    split
    · split <;> simp [Cells.read, hab.symm]
    · split
      · next hk => subst hk; split <;> simp [Cells.read, hab.symm]
      · simp [Cells.read, ih hm]

/-- The keys after a write are the old ones, and the one written unless the value is what an unlisted key reads as. -/
theorem Cells.mem_write {m : List (Nat × α)} {a : Nat} {v : α} {p : Nat × α} (h : p ∈ Cells.write d m a v) :
    p ∈ m ∨ (p = (a, v) ∧ v ≠ d a) := by
  induction m with
  | nil => by_cases hv : v = d a <;> simp_all [Cells.write]
  | cons q m ih =>
    obtain ⟨k, w⟩ := q
    simp only [Cells.write] at h
    split at h
    · split at h
      · exact .inl h
      · next hv =>
        simp only [List.mem_cons] at h ⊢
        tauto
    · split at h
      · split at h
        · exact .inl (by simp [h])
        · next hv =>
          simp only [List.mem_cons] at h ⊢
          tauto
      · simp only [List.mem_cons] at h ⊢
        rcases h with h | h
        · simp [h]
        · rcases ih h with h | h <;> simp [h]

/-- A write keeps the canonical form. -/
theorem Cells.wf_write {size : Nat} {m : List (Nat × α)} (h : Cells.wf d size m) {a : Nat} (ha : a < size) (v : α) :
    Cells.wf d size (Cells.write d m a v) := by
  refine ⟨?_, fun p hp => ?_⟩
  · obtain ⟨h, -⟩ := h
    induction m with
    | nil => by_cases hv : v = d a <;> simp [Cells.write, hv]
    | cons p m ih =>
      obtain ⟨hp, hm⟩ := List.pairwise_cons.mp h
      obtain ⟨k, w⟩ := p
      simp only [Cells.write]
      split
      · split
        · exact h
        · refine List.pairwise_cons.mpr ⟨fun q hq => ?_, h⟩
          rcases List.mem_cons.mp hq with rfl | hq
          · assumption
          · have := hp q hq; simp at this ⊢; omega
      · split
        · next hk =>
          subst hk
          split
          · exact hm
          · exact List.pairwise_cons.mpr ⟨fun q hq => hp q hq, hm⟩
        · refine List.pairwise_cons.mpr ⟨fun q hq => ?_, ih hm⟩
          rcases Cells.mem_write hq with hq | ⟨rfl, -⟩
          · exact hp q hq
          · simp; omega
  · rcases Cells.mem_write hp with hp | ⟨rfl, hv⟩
    · exact h.2 p hp
    · exact ⟨ha, hv⟩

/-- Writing back what is read changes nothing, so that equal stores are equal lists. -/
theorem Cells.write_read {m : List (Nat × α)} {size : Nat} (h : Cells.wf d size m) {a : Nat} {v : α}
    (hv : v = Cells.read d m a) : Cells.write d m a v = m := by
  obtain ⟨h, hd⟩ := h
  induction m with
  | nil => simpa [Cells.write, Cells.read] using hv
  | cons p m ih =>
    obtain ⟨hp, hm⟩ := List.pairwise_cons.mp h
    obtain ⟨k, w⟩ := p
    simp only [Cells.read] at hv
    simp only [Cells.write]
    split
    · rw [if_neg (by omega)] at hv
      rw [if_pos]
      exact hv.trans (Cells.read_below fun q hq => by have := hp q hq; simp at this; omega)
    · split
      · next hk =>
        subst hk
        rw [if_pos rfl] at hv
        subst hv
        rw [if_neg (hd (a, v) (by simp)).2]
      · rw [if_neg (by omega)] at hv
        rw [ih hv hm fun q hq => hd q (by simp [hq])]

/-! ### Bytes -/

/-- Reading back the byte just written. -/
theorem Bytes.read_write_same {n : Nat} {m : Bytes} (h : Bytes.wf n m) (a : Nat) (v : Byte) : (m.write a v).read a = v :=
  Cells.read_write_same h.1 a v

/-- A write leaves every other byte alone. -/
theorem Bytes.read_write_other {n : Nat} {m : Bytes} (h : Bytes.wf n m) {a b : Nat} (hab : b ≠ a) (v : Byte) :
    (m.write a v).read b = m.read b :=
  Cells.read_write_other h.1 hab v

/-- A write inside the segment keeps its canonical form. -/
theorem Bytes.wf_write {n : Nat} {m : Bytes} (h : Bytes.wf n m) {a : Nat} (ha : a < n) (v : Byte) :
    Bytes.wf n (m.write a v) :=
  Cells.wf_write h ha v

/-- The empty store is in canonical form. -/
theorem Bytes.wf_nil (n : Nat) : Bytes.wf n ([] : Bytes) := by simp [Bytes.wf, Cells.wf]

end Sys2Proof.Machine
end

