-- ==== Sys2Proof/Laws/Bus.lean ====
section
/-! SUPPORT. What the Bus can do, said once: the bounds of the address map, what a read leaves, and the effects a write can
have. -/

namespace Sys2Proof.Machine

/-! ### The address map -/

/-- The size of the segment a region's offset points into (`spec/10_state.md` R33). -/
def Region.inBounds : Region → Prop
  | .bootRom off => off < 256
  | .cartRom0 off | .vram off => off < 16384
  | .cartRomX off => off < cartRomSize
  | .cartRam off => off < cartRamSize
  | .wram off => off < 32768
  | .oam off => off < 160
  | .io off => off < 128
  | .hram off => off < 127
  | .gap | .ie | .outside => True

/-- A choice between regions has a property when both have. -/
theorem Region.ite_prop {P : Region → Prop} {p : Prop} [Decidable p] {x y : Region} (hx : p → P x) (hy : ¬p → P y) :
    P (if p then x else y) := by
  by_cases h : p
  · rw [if_pos h]; exact hx h
  · rw [if_neg h]; exact hy h

/-- Every offset the map gives lies in its segment, under any bank selection. -/
theorem locate_inBounds (b : Banks) (a : Nat) : (locate b a).inBounds := by
  have hv := b.vramBank.isLt
  have hw := b.wramBank.isLt
  have hr := b.cart.romBank.isLt
  have hc := b.cart.ramBank.isLt
  unfold locate locateDirect
  generalize unEcho a = a
  repeat' refine Region.ite_prop (P := Region.inBounds) (fun h => ?_) (fun h => ?_)
  all_goals simp only [Region.inBounds, cartRomSize, cartRamSize]
  all_goals omega

/-- What a region says of the addresses it owns, echo addresses folded: the columns of the table of R76. -/
def Region.owns (b : Banks) (a : Nat) : Region → Prop
  | .bootRom off => off = a ∧ a ≤ 0x00FF ∧ b.bootRomEnabled = true
  | .cartRom0 off => off = a ∧ a ≤ 0x3FFF ∧ (0x0100 ≤ a ∨ b.bootRomEnabled = false)
  | .cartRomX off => off = b.cart.romBank.toNat * 0x4000 + (a - 0x4000) ∧ 0x4000 ≤ a ∧ a ≤ 0x7FFF
  | .vram off => off = b.vramBank.toNat * 0x2000 + (a - 0x8000) ∧ 0x8000 ≤ a ∧ a ≤ 0x9FFF
  | .cartRam off => off = b.cart.ramBank.toNat * 0x2000 + (a - 0xA000) ∧ 0xA000 ≤ a ∧ a ≤ 0xBFFF
  | .wram off => (a = 0xC000 + off ∧ off < 0x1000) ∨
      (off = b.wramBank.toNat * 0x1000 + (a - 0xD000) ∧ 0xD000 ≤ a ∧ a ≤ 0xDFFF)
  | .oam off => a = 0xFE00 + off ∧ off < 160
  | .gap => 0xFEA0 ≤ a ∧ a ≤ 0xFEFF
  | .io off => a = 0xFF00 + off ∧ off < 128
  | .hram off => a = 0xFF80 + off ∧ off < 127
  | .ie => a = 0xFFFF
  | .outside => 0x10000 ≤ a ∨ (0xE000 ≤ a ∧ a ≤ 0xFDFF)

/-- The region the map gives owns the address. -/
theorem locate_owns (b : Banks) (a : Nat) : (locate b a).owns b (unEcho a) := by
  unfold locate locateDirect
  generalize unEcho a = a
  refine Region.ite_prop (P := Region.owns b a) (fun h => ⟨rfl, h⟩) (fun h => ?_)
  refine Region.ite_prop (P := Region.owns b a) (fun h1 => ⟨rfl, h1, ?_⟩) (fun h1 => ?_)
  · by_cases hb : b.bootRomEnabled = true
    · exact .inl (Nat.lt_of_not_le fun h' => h ⟨h', hb⟩)
    · exact .inr (by simpa using hb)
  repeat' refine Region.ite_prop (P := Region.owns b a) (fun h => ?_) (fun h => ?_)
  all_goals unfold Region.owns
  all_goals omega

/-- An address is itself or an echo (R81). -/
theorem unEcho_cases (a : Nat) :
    (unEcho a = a ∧ ¬(0xE000 ≤ a ∧ a ≤ 0xFDFF)) ∨ (unEcho a = a - 0x2000 ∧ 0xE000 ≤ a ∧ a ≤ 0xFDFF) := by
  unfold unEcho
  split
  · exact .inr ⟨rfl, ‹_›⟩
  · exact .inl ⟨rfl, ‹_›⟩

/-! What the map gives in each range of addresses (R76). -/

theorem locate_bootRom {b : Banks} {a : Nat} (h : a ≤ 0x00FF) (hb : b.bootRomEnabled = true) : locate b a = .bootRom a := by
  unfold locate locateDirect
  rw [show unEcho a = a by unfold unEcho; rw [if_neg (by omega)], if_pos ⟨h, hb⟩]

theorem locate_cartRom0 {b : Banks} {a : Nat} (h : a ≤ 0x3FFF) (hb : b.bootRomEnabled = false ∨ 0x0100 ≤ a) : locate b a = .cartRom0 a := by
  have ho := locate_owns b a
  have hu := unEcho_cases a
  generalize locate b a = r at ho
  cases r <;> simp only [Region.owns] at ho
  case bootRom off => rcases hb with hb | hb <;> [simp [hb] at ho; omega]
  case cartRom0 off => exact congrArg Region.cartRom0 (by omega)
  all_goals (exfalso; omega)

theorem locate_cartRomX {b : Banks} {a : Nat} (h : 0x4000 ≤ a) (h' : a ≤ 0x7FFF) :
    locate b a = .cartRomX (b.cart.romBank.toNat * 0x4000 + (a - 0x4000)) := by
  have ho := locate_owns b a
  have hu := unEcho_cases a
  generalize locate b a = r at ho
  cases r <;> simp only [Region.owns] at ho
  case cartRomX off => exact congrArg Region.cartRomX (by omega)
  all_goals (exfalso; omega)

theorem locate_vram {b : Banks} {a : Nat} (h : 0x8000 ≤ a) (h' : a ≤ 0x9FFF) : locate b a = .vram (b.vramBank.toNat * 0x2000 + (a - 0x8000)) := by
  have ho := locate_owns b a
  have hu := unEcho_cases a
  generalize locate b a = r at ho
  cases r <;> simp only [Region.owns] at ho
  case vram off => exact congrArg Region.vram (by omega)
  all_goals (exfalso; omega)

theorem locate_cartRam {b : Banks} {a : Nat} (h : 0xA000 ≤ a) (h' : a ≤ 0xBFFF) :
    locate b a = .cartRam (b.cart.ramBank.toNat * 0x2000 + (a - 0xA000)) := by
  have ho := locate_owns b a
  have hu := unEcho_cases a
  generalize locate b a = r at ho
  cases r <;> simp only [Region.owns] at ho
  case cartRam off => exact congrArg Region.cartRam (by omega)
  all_goals (exfalso; omega)

theorem locate_wram0 {b : Banks} {a : Nat} (h : 0xC000 ≤ a) (h' : a ≤ 0xCFFF) : locate b a = .wram (a - 0xC000) := by
  have ho := locate_owns b a
  have hu := unEcho_cases a
  generalize locate b a = r at ho
  cases r <;> simp only [Region.owns] at ho
  case wram off => exact congrArg Region.wram (by omega)
  all_goals (exfalso; omega)

theorem locate_wramX {b : Banks} {a : Nat} (h : 0xD000 ≤ a) (h' : a ≤ 0xDFFF) : locate b a = .wram (b.wramBank.toNat * 0x1000 + (a - 0xD000)) := by
  have ho := locate_owns b a
  have hu := unEcho_cases a
  generalize locate b a = r at ho
  cases r <;> simp only [Region.owns] at ho
  case wram off => exact congrArg Region.wram (by omega)
  all_goals (exfalso; omega)

theorem locate_oam {b : Banks} {a : Nat} (h : 0xFE00 ≤ a) (h' : a ≤ 0xFE9F) : locate b a = .oam (a - 0xFE00) := by
  have ho := locate_owns b a
  have hu := unEcho_cases a
  generalize locate b a = r at ho
  cases r <;> simp only [Region.owns] at ho
  case oam off => exact congrArg Region.oam (by omega)
  all_goals (exfalso; omega)

theorem locate_gap {b : Banks} {a : Nat} (h : 0xFEA0 ≤ a) (h' : a ≤ 0xFEFF) : locate b a = .gap := by
  have ho := locate_owns b a
  have hu := unEcho_cases a
  generalize locate b a = r at ho
  cases r <;> simp only [Region.owns] at ho
  case gap => rfl
  all_goals (exfalso; omega)

theorem locate_io {b : Banks} {a : Nat} (h : 0xFF00 ≤ a) (h' : a ≤ 0xFF7F) : locate b a = .io (a - 0xFF00) := by
  have ho := locate_owns b a
  have hu := unEcho_cases a
  generalize locate b a = r at ho
  cases r <;> simp only [Region.owns] at ho
  case io off => exact congrArg Region.io (by omega)
  all_goals (exfalso; omega)

theorem locate_hram {b : Banks} {a : Nat} (h : 0xFF80 ≤ a) (h' : a ≤ 0xFFFE) : locate b a = .hram (a - 0xFF80) := by
  have ho := locate_owns b a
  have hu := unEcho_cases a
  generalize locate b a = r at ho
  cases r <;> simp only [Region.owns] at ho
  case hram off => exact congrArg Region.hram (by omega)
  all_goals (exfalso; omega)

theorem locate_ie {b : Banks} {a : Nat} (h : a = 0xFFFF) : locate b a = .ie := by
  have ho := locate_owns b a
  have hu := unEcho_cases a
  generalize locate b a = r at ho
  cases r <;> simp only [Region.owns] at ho
  case ie => rfl
  all_goals (exfalso; omega)

theorem locate_outside {b : Banks} {a : Nat} (h : 0x10000 ≤ a) : locate b a = .outside := by
  have ho := locate_owns b a
  have hu := unEcho_cases a
  generalize locate b a = r at ho
  cases r <;> simp only [Region.owns] at ho
  case outside => rfl
  all_goals (exfalso; omega)

/-- The echo is no region of its own (`spec/20_memory.md` R81). -/
theorem locate_echo (b : Banks) {a : Nat} (h : 0xC000 ≤ a) (h' : a ≤ 0xDDFF) : locate b (a + 0x2000) = locate b a := by
  unfold locate
  have h1 : unEcho (a + 0x2000) = a := by unfold unEcho; split <;> omega
  have h2 : unEcho a = a := by unfold unEcho; split <;> omega
  rw [h1, h2]

/-! ### Reads -/

/-- What a read leaves (R126): the state as it was, one free value more, or the fault set. -/
theorem busRead_cases (a : Nat) (s : State) :
    (∃ v, busRead a s = .ok v s) ∨ (∃ v, busRead a s = .ok v s.drawFree) ∨ ∃ e, busRead a s = .fatal (s.setFault e) := by
  unfold busRead
  split <;> try simp [cartRead, cartRamRead, ioRead]
  all_goals repeat' split
  all_goals simp

/-- A read that ends well leaves the state, or the state with one free value more. -/
theorem busRead_ok {a : Nat} {s t : State} {v : Byte} (h : busRead a s = .ok v t) : t = s ∨ t = s.drawFree := by
  obtain ⟨w, h'⟩ | ⟨w, h'⟩ | ⟨e, h'⟩ := busRead_cases a s <;> rw [h'] at h <;> simp at h
  · exact .inl h.2.symm
  · exact .inr h.2.symm

/-- A read that raises a fatal error sets the fault and nothing else. -/
theorem busRead_fatal {a : Nat} {s t : State} (h : busRead a s = .fatal t) : ∃ e, t = s.setFault e := by
  obtain ⟨w, h'⟩ | ⟨w, h'⟩ | ⟨e, h'⟩ := busRead_cases a s <;> rw [h'] at h <;> simp at h
  exact ⟨e, h.symm⟩

/-- A read above the cartridge and VRAM never raises a fatal error. -/
theorem busRead_total {a : Nat} (s : State) (h : 0xC000 ≤ a) (h' : a ≤ 0xFFFF) : ∃ v t, busRead a s = .ok v t := by
  have ho := locate_owns s.banks a
  have hu := unEcho_cases a
  unfold busRead
  split <;> rename_i h1 <;> rw [h1] at ho <;> simp only [Region.owns] at ho
  all_goals try (exfalso; omega)
  all_goals try exact ⟨_, _, rfl⟩
  unfold ioRead
  split <;> exact ⟨_, _, rfl⟩

/-- The registers of the I/O block do not depend on the CPU's state. -/
theorem ioPeek_cpu (off : Nat) (s : State) (c : Cpu) : ioPeek off { s with cpu := c } = ioPeek off s := by
  unfold ioPeek
  split <;> rfl

/-- A result with its state changed by `f`. -/
def Res.map {α : Type} (f : State → State) : Res α → Res α
  | .ok v s => .ok v (f s)
  | .fatal s => .fatal (f s)

/-- The state with another CPU. -/
def State.withCpu (c : Cpu) (s : State) : State := { s with cpu := c }

/-- Nor does a read of the cartridge's RAM window. -/
theorem cartRamRead_cpu (off : Nat) (s : State) (c : Cpu) :
    cartRamRead off { s with cpu := c } = (cartRamRead off s).map (State.withCpu c) := by
  unfold cartRamRead
  by_cases h : s.cartRamMapped = true
  · rw [if_pos h, if_pos (show ({ s with cpu := c } : State).cartRamMapped = true from h)]; rfl
  · rw [if_neg h, if_neg (show ¬({ s with cpu := c } : State).cartRamMapped = true from h)]; rfl

/-- A read does not depend on the CPU's state, and keeps it. -/
theorem busRead_withCpu (a : Nat) (s : State) (c : Cpu) :
    busRead a (s.withCpu c) = (busRead a s).map (State.withCpu c) := by
  unfold busRead
  simp only [State.withCpu]
  split <;> try rfl
  all_goals simp only [cartRead, cartRamRead_cpu, ioRead, ioPeek_cpu]
  all_goals repeat' split
  all_goals rfl

/-! ### Writes -/

/-- The effects a write to an I/O offset can have (`spec/20_memory.md` R90 to R120). -/
inductive IoEffect (v : Byte) (s : State) : Nat → Res Unit → Prop where
  | audio (off : Nat) (h : isAudio off = true) : IoEffect v s off (.ok () s)
  | ly : IoEffect v s 0x44 (.ok () s)
  | joyp : IoEffect v s 0x00 (.ok () (s.setIoRaw 0x00 (v &&& 0x30)))
  | div : IoEffect v s 0x04 (.ok () (s.setTimer s.timer.writeDiv))
  | tima : IoEffect v s 0x05 (.ok () (s.setTimer { s.timer with tima := v }))
  | tma : IoEffect v s 0x06 (.ok () (s.setTimer { s.timer with tma := v }))
  | tac : IoEffect v s 0x07 (.ok () (s.setTimer (s.timer.writeTac v)))
  | intFlag : IoEffect v s 0x0F (.ok () (s.setIF (v.extractLsb' 0 5)))
  | lcdc : IoEffect v s 0x40 (.ok () (writeLcdc v s))
  | stat : IoEffect v s 0x41 (.ok () (writeStat v s))
  | lyc : IoEffect v s 0x45 (.ok () (writeLyc v s))
  | dma : IoEffect v s 0x46 (.ok () (writeDma v s))
  | key1 (h : s.mode = .cgb) : IoEffect v s 0x4D (.ok () (s.setIoRaw 0x4D (v &&& 0x01)))
  | vbk (h : s.mode = .cgb) : IoEffect v s 0x4F (.ok () (s.setBanks { s.banks with vramBank := v.extractLsb' 0 1 }))
  | boot : IoEffect v s 0x50 (.ok () ((s.setIoRaw 0x50 v).setBanks { s.banks with bootRomEnabled := false }))
  | hdma (h : s.mode = .cgb) : IoEffect v s 0x55 (writeHdma v s)
  | bcps (h : s.mode = .cgb) : IoEffect v s 0x68 (.ok () (s.setVideo { s.video with bcps := v &&& 0xBF }))
  | bcpd (h : s.mode = .cgb) : IoEffect v s 0x69 (.ok () (writeBcpd v s))
  | ocps (h : s.mode = .cgb) : IoEffect v s 0x6A (.ok () (s.setVideo { s.video with ocps := v &&& 0xBF }))
  | ocpd (h : s.mode = .cgb) : IoEffect v s 0x6B (.ok () (writeOcpd v s))
  | svbk (h : s.mode = .cgb) :
      IoEffect v s 0x70 (.ok () ((s.setIoRaw 0x70 v).setBanks { s.banks with wramBank := svbkBank v }))
  | plain (off : Nat) (ha : isAudio off = false)
      (h : off ∉ [0x00, 0x04, 0x05, 0x06, 0x07, 0x0F, 0x40, 0x41, 0x44, 0x45, 0x46, 0x50])
      (hm : off ∈ [0x4D, 0x4F, 0x55, 0x68, 0x69, 0x6A, 0x6B, 0x70] → s.mode = .dmg) :
      IoEffect v s off (.ok () (s.setIoRaw off v))

/-- A write to an I/O offset has one of these effects. -/
theorem ioWrite_effect (off : Nat) (v : Byte) (s : State) : IoEffect v s off (ioWrite off v s) := by
  unfold ioWrite
  split
  · exact .audio off ‹_›
  · next ha =>
    have hm : ¬s.mode = .cgb → s.mode = .dmg := by cases s.mode <;> simp
    split <;> try (simp only [cgbWrite]; split)
    all_goals first
      | exact .ly
      | (constructor <;> assumption)
      | exact .plain _ (by simpa using ha) (by simp) (fun _ => hm ‹_›)
      | exact .plain _ (by simpa using ha) (by simp_all) (by simp_all)

/-- The effects a write on the Bus can have (R72, R76 to R86). -/
inductive BusEffect (v : Byte) (s : State) (a : Nat) : Res Unit → Prop where
  | fatal (e : Fault) : BusEffect v s a (.fatal (s.setFault e))
  | gap (h : locate s.banks a = .gap) : BusEffect v s a (.ok () s)
  | consumed (h : a ≤ 0x7FFF) : BusEffect v s a (.ok () s)
  | hook (w : CartSelect) (h : a ≤ 0x7FFF) (hw : s.params.cartWrite = .hook) :
      BusEffect v s a (.ok () (s.setBanks { s.banks with cart := w }))
  | noRam (h : s.cartRamMapped = false) (ha : 0xA000 ≤ a) (ha' : a ≤ 0xBFFF) : BusEffect v s a (.ok () s)
  | vram (off : Nat) (h : locate s.banks a = .vram off) (hb : off < 16384) :
      BusEffect v s a (.ok () (s.setMem { s.mem with vram := s.mem.vram.write off v }))
  | cartRam (off : Nat) (h : locate s.banks a = .cartRam off) (hb : off < cartRamSize) (hc : s.cartLoaded = true)
      (hr : s.cartRamMapped = true) :
      BusEffect v s a (.ok () (s.setMem { s.mem with cartRam := s.mem.cartRam.write off v }))
  | wram (off : Nat) (h : locate s.banks a = .wram off) (hb : off < 32768) :
      BusEffect v s a (.ok () (s.setMem { s.mem with wram := s.mem.wram.write off v }))
  | oam (off : Nat) (h : locate s.banks a = .oam off) (hb : off < 160) :
      BusEffect v s a (.ok () (s.setMem { s.mem with oam := s.mem.oam.write off v }))
  | io (off : Nat) (r : Res Unit) (h : locate s.banks a = .io off) (hb : off < 128) (he : IoEffect v s off r) :
      BusEffect v s a r
  | hram (off : Nat) (h : locate s.banks a = .hram off) (hb : off < 127) :
      BusEffect v s a (.ok () (s.setMem { s.mem with hram := s.mem.hram.write off v }))
  | ie (h : locate s.banks a = .ie) : BusEffect v s a (.ok () (s.setIE (v.extractLsb' 0 5)))

/-- An address the map gives to a cartridge ROM window. -/
theorem le_of_locate_rom {b : Banks} {a off : Nat} (h : locate b a = .cartRom0 off ∨ locate b a = .cartRomX off) :
    a ≤ 0x7FFF := by
  have h' := locate_owns b a
  have hu : unEcho a = a ∨ 0xC000 ≤ unEcho a := by unfold unEcho; split <;> omega
  obtain h | h := h <;> rw [h] at h' <;> simp only [Region.owns] at h' <;> omega

/-- An address the map gives to the cartridge's RAM window. -/
theorem mem_of_locate_cartRam {b : Banks} {a off : Nat} (h : locate b a = .cartRam off) : 0xA000 ≤ a ∧ a ≤ 0xBFFF := by
  have h' := locate_owns b a
  have hu : unEcho a = a ∨ 0xC000 ≤ unEcho a := by unfold unEcho; split <;> omega
  rw [h] at h'
  simp only [Region.owns] at h'
  omega

/-- A write to a cartridge ROM address has one of these effects. -/
theorem cartRomWrite_effect {a : Nat} (h : a ≤ 0x7FFF) (v : Byte) (s : State) : BusEffect v s a (cartRomWrite a v s) := by
  unfold cartRomWrite
  split
  · split
    · exact .fatal _
    · exact .consumed h
    · split
      · exact .hook _ h ‹_›
      · exact .fatal _
  · exact .fatal _

/-- A write on the Bus has one of these effects. -/
theorem busWrite_effect (a : Nat) (v : Byte) (s : State) : BusEffect v s a (busWrite a v s) := by
  have hb := locate_inBounds s.banks a
  unfold busWrite
  split <;> rename_i h <;> simp only [h, Region.inBounds] at hb
  · exact .fatal _
  · exact cartRomWrite_effect (le_of_locate_rom (.inl h)) v s
  · exact cartRomWrite_effect (le_of_locate_rom (.inr h)) v s
  · exact .vram _ h hb
  · unfold cartRamWrite
    split
    · split
      · exact .cartRam _ h hb ‹_› ‹_›
      · exact .noRam (by simpa using ‹¬s.cartRamMapped = true›) (mem_of_locate_cartRam h).1 (mem_of_locate_cartRam h).2
    · exact .fatal _
  · exact .wram _ h hb
  · exact .oam _ h hb
  · exact .gap h
  · exact .io _ _ h hb (ioWrite_effect _ _ _)
  · exact .hram _ h hb
  · exact .ie h
  · exact .fatal _

end Sys2Proof.Machine
end

