-- ==== Sys2Proof/Laws/Video.lean ====
section
/-! SUPPORT. What the Video unit's operations can do, said once: they touch the Video unit and IF only, and what each does to
the Video unit's own state. -/

namespace Sys2Proof.Machine

/-- Only the Video unit and the pending sources differ. -/
def VideoOnly (s t : State) : Prop := t = { s with video := t.video, ints := { s.ints with pending := t.ints.pending } }

theorem VideoOnly.refl (s : State) : VideoOnly s s := rfl

theorem VideoOnly.trans {s t u : State} (h : VideoOnly s t) (h' : VideoOnly t u) : VideoOnly s u := by
  unfold VideoOnly at *
  rw [h', h]

theorem videoOnly_setVideo (s : State) (v : Video) : VideoOnly s (s.setVideo v) := rfl

theorem videoOnly_raise (s : State) (k : IntSource) : VideoOnly s (s.raiseInterrupt k) := rfl

/-- `CompareLYC()` as one update (R456). -/
theorem compareLyc_eq (s : State) : compareLyc s = { s with
    video := { s.video with coincidence := s.lyMatch }
    ints := { s.ints with pending :=
      if s.params.lycIrq && s.video.lcdc.lcdOn && !s.video.coincidence && s.lyMatch && s.statRaw.getLsbD 6 then
        s.ints.pending ||| IntSource.lcdStatus.mask
      else s.ints.pending } } := by
  unfold compareLyc
  simp only
  split <;> rfl

theorem videoOnly_compareLyc (s : State) : VideoOnly s (compareLyc s) := by
  unfold compareLyc
  simp only
  split <;> rfl

theorem videoOnly_setLine (n : Nat) (s : State) : VideoOnly s (setLine n s) :=
  (videoOnly_setVideo s _).trans (videoOnly_compareLyc _)

theorem videoOnly_enterMode (m : VideoMode) (s : State) : VideoOnly s (enterMode m s) := by
  unfold enterMode
  simp only
  repeat' split
  all_goals rfl

theorem videoOnly_lcdDisable (s : State) : VideoOnly s (lcdDisable s) := by
  unfold lcdDisable
  simp only
  exact ((videoOnly_setVideo s _).trans (videoOnly_setLine _ _)).trans (videoOnly_setVideo _ _)

theorem videoOnly_writeLcdc (v : Byte) (s : State) : VideoOnly s (writeLcdc v s) := by
  unfold writeLcdc
  simp only
  split
  · exact (videoOnly_setVideo s _).trans (videoOnly_lcdDisable _)
  · split
    · exact (videoOnly_setVideo s _).trans (videoOnly_setVideo _ _)
    · exact videoOnly_setVideo s _

theorem videoOnly_renderLine (l : Nat) (s : State) : VideoOnly s (renderLine l s) := rfl

theorem videoOnly_nextLine (s : State) : VideoOnly s (nextLine s) := by
  unfold nextLine
  simp only
  split
  · exact (videoOnly_setLine _ _).trans (videoOnly_enterMode _ _)
  · split
    · exact (videoOnly_setLine _ _).trans (videoOnly_enterMode _ _)
    · exact videoOnly_setLine _ _

theorem videoOnly_lineEnd (s : State) : VideoOnly s (lineEnd s) := by
  unfold lineEnd
  simp only
  split
  · exact (videoOnly_setVideo s _).trans
      (((videoOnly_setVideo _ _).trans (videoOnly_setLine _ _)).trans (videoOnly_enterMode _ _))
  · exact (videoOnly_setVideo s { s.video with lineT := 0 }).trans (videoOnly_nextLine _)

/-- The first part of a scanning cycle: the cycle count and the mode entries within a line (R453). -/
def scanModes (s : State) : State :=
  let s := s.setVideo { s.video with lineT := s.video.lineT + 1 }
  let s := if s.video.line < 144 ∧ s.video.lineT = 20 then enterMode .pixelTransfer s else s
  if s.video.line < 144 ∧ s.video.lineT = 63 then enterMode .hblank (renderLine s.video.line s) else s

theorem scanStep_eq (s : State) :
    scanStep s = if (scanModes s).video.lineT = 114 then lineEnd (scanModes s) else scanModes s := rfl

theorem videoOnly_scanModes (s : State) : VideoOnly s (scanModes s) := by
  unfold scanModes
  simp only
  split
  · split
    · exact ((videoOnly_setVideo s _).trans (videoOnly_enterMode _ _)).trans
        ((videoOnly_renderLine _ _).trans (videoOnly_enterMode _ _))
    · exact (videoOnly_setVideo s _).trans (videoOnly_enterMode _ _)
  · split
    · exact (videoOnly_setVideo s _).trans ((videoOnly_renderLine _ _).trans (videoOnly_enterMode _ _))
    · exact videoOnly_setVideo s _

theorem videoOnly_scanStep (s : State) : VideoOnly s (scanStep s) := by
  rw [scanStep_eq]
  split
  · exact (videoOnly_scanModes s).trans (videoOnly_lineEnd _)
  · exact videoOnly_scanModes s

theorem videoOnly_delayStep (s : State) : VideoOnly s (delayStep s) := by
  unfold delayStep
  simp only
  split
  · exact (((videoOnly_setVideo s _).trans (videoOnly_setVideo _ _)).trans (videoOnly_setLine _ _)).trans
      (videoOnly_enterMode _ _)
  · exact videoOnly_setVideo s _

/-- The Video step touches the Video unit and IF only. -/
theorem videoOnly_videoStep (s : State) : VideoOnly s (videoStep s) := by
  unfold videoStep
  split
  · split
    · exact videoOnly_delayStep s
    · exact videoOnly_scanStep s
  · exact .refl s

/-! ### The Video unit's own state -/

@[simp] theorem compareLyc_video (s : State) : (compareLyc s).video = { s.video with coincidence := s.lyMatch } := by
  unfold compareLyc
  simp only
  split <;> rfl

@[simp] theorem setLine_video (n : Nat) (s : State) :
    (setLine n s).video = { s.video with line := n, coincidence := n == s.lyc.toNat } := by
  simp [setLine, State.lyMatch, State.lyc, State.ioRaw]

@[simp] theorem enterMode_video (m : VideoMode) (s : State) : (enterMode m s).video = { s.video with mode := m } := by
  unfold enterMode
  simp only
  repeat' split
  all_goals rfl

@[simp] theorem renderLine_video (l : Nat) (s : State) :
    (renderLine l s).video = s.video.setBack (s.video.back.setRow s.params l (composeLine s l)) := rfl

@[simp] theorem compareLyc_mem (s : State) : (compareLyc s).mem = s.mem := by rw [videoOnly_compareLyc s]
@[simp] theorem setLine_mem (n : Nat) (s : State) : (setLine n s).mem = s.mem := by rw [videoOnly_setLine n s]
@[simp] theorem enterMode_mem (m : VideoMode) (s : State) : (enterMode m s).mem = s.mem := by
  rw [videoOnly_enterMode m s]
@[simp] theorem renderLine_mem (l : Nat) (s : State) : (renderLine l s).mem = s.mem := rfl
@[simp] theorem compareLyc_params (s : State) : (compareLyc s).params = s.params := by rw [videoOnly_compareLyc s]
@[simp] theorem setLine_params (n : Nat) (s : State) : (setLine n s).params = s.params := by rw [videoOnly_setLine n s]
@[simp] theorem enterMode_params (m : VideoMode) (s : State) : (enterMode m s).params = s.params := by
  rw [videoOnly_enterMode m s]
@[simp] theorem renderLine_params (l : Nat) (s : State) : (renderLine l s).params = s.params := rfl

@[simp] theorem Video.setBack_line (v : Video) (f : Frame) : (v.setBack f).line = v.line := by
  unfold Video.setBack; split <;> rfl
@[simp] theorem Video.setBack_lineT (v : Video) (f : Frame) : (v.setBack f).lineT = v.lineT := by
  unfold Video.setBack; split <;> rfl
@[simp] theorem Video.setBack_mode (v : Video) (f : Frame) : (v.setBack f).mode = v.mode := by
  unfold Video.setBack; split <;> rfl
@[simp] theorem Video.setBack_lcdc (v : Video) (f : Frame) : (v.setBack f).lcdc = v.lcdc := by
  unfold Video.setBack; split <;> rfl
@[simp] theorem Video.setBack_enableDelay (v : Video) (f : Frame) : (v.setBack f).enableDelay = v.enableDelay := by
  unfold Video.setBack; split <;> rfl
@[simp] theorem Video.setBack_coincidence (v : Video) (f : Frame) : (v.setBack f).coincidence = v.coincidence := by
  unfold Video.setBack; split <;> rfl
@[simp] theorem Video.setBack_bcps (v : Video) (f : Frame) : (v.setBack f).bcps = v.bcps := by
  unfold Video.setBack; split <;> rfl
@[simp] theorem Video.setBack_ocps (v : Video) (f : Frame) : (v.setBack f).ocps = v.ocps := by
  unfold Video.setBack; split <;> rfl
@[simp] theorem Video.setBack_bgPal (v : Video) (f : Frame) : (v.setBack f).bgPal = v.bgPal := by
  unfold Video.setBack; split <;> rfl
@[simp] theorem Video.setBack_objPal (v : Video) (f : Frame) : (v.setBack f).objPal = v.objPal := by
  unfold Video.setBack; split <;> rfl
@[simp] theorem Video.setBack_frontSel (v : Video) (f : Frame) : (v.setBack f).frontSel = v.frontSel := by
  unfold Video.setBack; split <;> rfl
@[simp] theorem Video.setBack_front (v : Video) (f : Frame) : (v.setBack f).front = v.front := by
  unfold Video.setBack Video.front; split <;> simp_all
@[simp] theorem Video.setBack_back (v : Video) (f : Frame) : (v.setBack f).back = f := by
  unfold Video.setBack Video.back; split <;> simp_all

@[simp] theorem compareLyc_lyc (s : State) : (compareLyc s).lyc = s.lyc := by simp [State.lyc, State.ioRaw]
@[simp] theorem setLine_lyc (n : Nat) (s : State) : (setLine n s).lyc = s.lyc := by simp [State.lyc, State.ioRaw]
@[simp] theorem enterMode_lyc (m : VideoMode) (s : State) : (enterMode m s).lyc = s.lyc := by simp [State.lyc, State.ioRaw]
@[simp] theorem setVideo_lyc (s : State) (v : Video) : (s.setVideo v).lyc = s.lyc := rfl
@[simp] theorem renderLine_lyc (l : Nat) (s : State) : (renderLine l s).lyc = s.lyc := rfl

/-- A scanning cycle within a line, on the Video unit's own state (R453). -/
theorem scanModes_video (s : State) : (scanModes s).video =
    if s.video.line < 144 ∧ s.video.lineT + 1 = 20 then { s.video with lineT := s.video.lineT + 1, mode := .pixelTransfer }
    else if s.video.line < 144 ∧ s.video.lineT + 1 = 63 then
      { (renderLine s.video.line (s.setVideo { s.video with lineT := s.video.lineT + 1 })).video with mode := .hblank }
    else { s.video with lineT := s.video.lineT + 1 } := by
  obtain ⟨u, hu⟩ : ∃ u, s.setVideo { s.video with lineT := s.video.lineT + 1 } = u := ⟨_, rfl⟩
  have hv : { s.video with lineT := s.video.lineT + 1 } = u.video := by rw [← hu]; rfl
  have hl : s.video.line = u.video.line := by rw [← hu]; rfl
  have ht : s.video.lineT + 1 = u.video.lineT := by rw [← hu]; rfl
  have hp : { s.video with lineT := s.video.lineT + 1, mode := .pixelTransfer } = { u.video with mode := .pixelTransfer } := by
    rw [← hu]; rfl
  unfold scanModes
  simp only [hu]
  rw [hv, hp, hl, ht]
  by_cases h1 : u.video.line < 144 ∧ u.video.lineT = 20
  · have h2 : ¬(u.video.line < 144 ∧ u.video.lineT = 63) := by omega
    simp only [if_pos h1, enterMode_video, if_neg h2]
  · simp only [if_neg h1]
    by_cases h2 : u.video.line < 144 ∧ u.video.lineT = 63
    · simp only [if_pos h2, enterMode_video]
    · simp only [if_neg h2]

/-- The end of a line, on the Video unit's own state (R453). -/
theorem lineEnd_video (s : State) : (lineEnd s).video =
    if s.video.line = 153 then
      { s.video with lineT := 0, frontSel := !s.video.frontSel, line := 0, coincidence := 0 == s.lyc.toNat, mode := .oamSearch }
    else
      { s.video with
        lineT := 0, line := s.video.line + 1, coincidence := s.video.line + 1 == s.lyc.toNat
        mode := if s.video.line + 1 = 144 then .vblank else if s.video.line + 1 < 144 then .oamSearch else s.video.mode } := by
  obtain ⟨u, hu⟩ : ∃ u, s.setVideo { s.video with lineT := 0 } = u := ⟨_, rfl⟩
  have hl : s.video.line = u.video.line := by rw [← hu]; rfl
  have hy : s.lyc = u.lyc := by rw [← hu]; rfl
  have hm : s.video.mode = u.video.mode := by rw [← hu]; rfl
  have hv : ∀ a b c d, { s.video with lineT := 0, frontSel := a, line := b, coincidence := c, mode := d } =
      { u.video with frontSel := a, line := b, coincidence := c, mode := d } := fun _ _ _ _ => by rw [← hu]; rfl
  have hv' : ∀ b c d, { s.video with lineT := 0, line := b, coincidence := c, mode := d } =
      { u.video with line := b, coincidence := c, mode := d } := fun _ _ _ => by rw [← hu]; rfl
  have hf : s.video.frontSel = u.video.frontSel := by rw [← hu]; rfl
  unfold lineEnd
  simp only [hu]
  rw [hv, hv', hl, hy, hm, hf]
  by_cases h1 : u.video.line = 153
  · rw [if_pos h1, if_pos h1]
    simp [frameEnd]
  · rw [if_neg h1, if_neg h1]
    unfold nextLine
    simp only [setLine_video]
    by_cases h2 : u.video.line + 1 = 144
    · simp only [if_pos h2, enterMode_video, setLine_video]
    · by_cases h3 : u.video.line + 1 < 144
      · simp only [if_neg h2, if_pos h3, enterMode_video, setLine_video]
      · simp only [if_neg h2, if_neg h3, setLine_video]

/-- A scanning cycle, on the Video unit's own state (R453). -/
theorem scanStep_video (s : State) : (scanStep s).video =
    if s.video.lineT + 1 = 114 then
      if s.video.line = 153 then
        { s.video with lineT := 0, frontSel := !s.video.frontSel, line := 0, coincidence := 0 == s.lyc.toNat, mode := .oamSearch }
      else
        { s.video with
          lineT := 0, line := s.video.line + 1, coincidence := s.video.line + 1 == s.lyc.toNat
          mode := if s.video.line + 1 = 144 then .vblank else if s.video.line + 1 < 144 then .oamSearch else s.video.mode }
    else if s.video.line < 144 ∧ s.video.lineT + 1 = 20 then
      { s.video with lineT := s.video.lineT + 1, mode := .pixelTransfer }
    else if s.video.line < 144 ∧ s.video.lineT + 1 = 63 then
      { (renderLine s.video.line (s.setVideo { s.video with lineT := s.video.lineT + 1 })).video with mode := .hblank }
    else { s.video with lineT := s.video.lineT + 1 } := by
  rw [scanStep_eq]
  have hl : (scanModes s).lyc = s.lyc := by
    have := (videoOnly_scanModes s)
    unfold State.lyc State.ioRaw
    rw [this]
  have ht : (scanModes s).video.lineT = s.video.lineT + 1 := by
    rw [scanModes_video]
    repeat' split
    all_goals simp
  rw [ht]
  by_cases h : s.video.lineT + 1 = 114
  · rw [if_pos h, if_pos h, lineEnd_video, hl, scanModes_video]
    have h1 : ¬(s.video.line < 144 ∧ s.video.lineT + 1 = 20) := by omega
    have h2 : ¬(s.video.line < 144 ∧ s.video.lineT + 1 = 63) := by omega
    rw [if_neg h1, if_neg h2]
  · rw [if_neg h, if_neg h, scanModes_video]

/-- A cycle of the delay, on the Video unit's own state (R462). -/
theorem delayStep_video (s : State) : (delayStep s).video =
    if s.video.enableDelay - 1 = 0 then
      { s.video with
        enableDelay := s.video.enableDelay - 1, lineT := 0, line := 0, coincidence := 0 == s.lyc.toNat, mode := .oamSearch }
    else { s.video with enableDelay := s.video.enableDelay - 1 } := by
  obtain ⟨u, hu⟩ : ∃ u, s.setVideo { s.video with enableDelay := s.video.enableDelay - 1 } = u := ⟨_, rfl⟩
  have hd : s.video.enableDelay - 1 = u.video.enableDelay := by rw [← hu]; rfl
  have hy : s.lyc = u.lyc := by rw [← hu]; rfl
  have hv : ∀ a b c d, { s.video with enableDelay := s.video.enableDelay - 1, lineT := a, line := b, coincidence := c, mode := d } =
      { u.video with lineT := a, line := b, coincidence := c, mode := d } := fun _ _ _ _ => by rw [← hu]; rfl
  have hv' : { s.video with enableDelay := s.video.enableDelay - 1 } = u.video := by rw [← hu]; rfl
  unfold delayStep
  simp only [hu]
  rw [hv, hv', hy, hd]
  by_cases h : u.video.enableDelay = 0
  · simp only [if_pos h, enterMode_video, setLine_video, State.setVideo_video, setVideo_lyc]
  · simp only [if_neg h]

end Sys2Proof.Machine
end

