-- ==== Sys2Proof/Laws/Keep.lean ====
section
/-! SUPPORT. What a Bus access keeps: the CPU, the fixed parts, the fault field unless it raises one, and the canonical form
of memory. -/

namespace Sys2Proof.Machine

/-- What no Bus access changes, and that the boot ROM is never mapped back. -/
structure BusKept (s t : State) : Prop where
  cpu : t.cpu = s.cpu
  fixed : FixedKept s t
  buttons : t.buttons = s.buttons
  host : t.host = s.host
  boot : t.banks.bootRomEnabled = true → s.banks.bootRomEnabled = true

theorem FixedKept.refl (s : State) : FixedKept s s := ⟨rfl, rfl, rfl, rfl, rfl, rfl, rfl, rfl⟩

theorem FixedKept.trans {s t u : State} (h : FixedKept s t) (h' : FixedKept t u) : FixedKept s u :=
  ⟨h'.1.trans h.1, h'.2.trans h.2, h'.3.trans h.3, h'.4.trans h.4, h'.5.trans h.5, h'.6.trans h.6, h'.7.trans h.7,
    h'.8.trans h.8⟩

theorem BusKept.refl (s : State) : BusKept s s := ⟨rfl, .refl s, rfl, rfl, id⟩

theorem BusKept.trans {s t u : State} (h : BusKept s t) (h' : BusKept t u) : BusKept s u :=
  ⟨h'.1.trans h.1, h.2.trans h'.2, h'.3.trans h.3, h'.4.trans h.4, fun x => h.5 (h'.5 x)⟩

theorem VideoOnly.busKept {s t : State} (h : VideoOnly s t) : BusKept s t := by
  unfold VideoOnly at h
  rw [h]
  exact ⟨rfl, ⟨rfl, rfl, rfl, rfl, rfl, rfl, rfl, rfl⟩, rfl, rfl, id⟩

theorem BusKept.of_setFault (s : State) (e : Fault) : BusKept s (s.setFault e) :=
  ⟨rfl, ⟨rfl, rfl, rfl, rfl, rfl, rfl, rfl, rfl⟩, rfl, rfl, id⟩

theorem BusKept.of_setIoRaw (s : State) (off : Nat) (v : Byte) : BusKept s (s.setIoRaw off v) :=
  ⟨rfl, ⟨rfl, rfl, rfl, rfl, rfl, rfl, rfl, rfl⟩, rfl, rfl, id⟩

theorem busRead_kept (a : Nat) (s : State) : BusKept s (busRead a s).state := by
  obtain ⟨v, h⟩ | ⟨v, h⟩ | ⟨e, h⟩ := busRead_cases a s <;> rw [h]
  · exact .refl s
  · exact ⟨rfl, ⟨rfl, rfl, rfl, rfl, rfl, rfl, rfl, rfl⟩, rfl, rfl, id⟩
  · exact .of_setFault s e

/-- What a write to 0xFF55 can do in colour mode (R430). -/
theorem writeHdma_cases (v : Byte) (s : State) :
    (∃ h, writeHdma v s = .ok () (s.setHdma h)) ∨ ∃ e, writeHdma v s = .fatal (s.setFault e) := by
  unfold writeHdma
  simp only
  split
  · exact .inl ⟨_, rfl⟩
  · split
    · exact .inl ⟨_, rfl⟩
    · exact .inr ⟨_, rfl⟩

theorem IoEffect.kept {v : Byte} {s : State} {off : Nat} {r : Res Unit} (h : IoEffect v s off r) : BusKept s r.state := by
  cases h with
  | lcdc => exact (videoOnly_writeLcdc v s).busKept
  | lyc => exact (BusKept.of_setIoRaw s 0x45 v).trans (videoOnly_compareLyc _).busKept
  | hdma h =>
    obtain ⟨x, hx⟩ | ⟨e, hx⟩ := writeHdma_cases v s <;> rw [hx]
    · exact ⟨rfl, ⟨rfl, rfl, rfl, rfl, rfl, rfl, rfl, rfl⟩, rfl, rfl, id⟩
    · exact .of_setFault s e
  | boot => exact ⟨rfl, ⟨rfl, rfl, rfl, rfl, rfl, rfl, rfl, rfl⟩, rfl, rfl, fun h => by simp at h⟩
  | _ => exact ⟨rfl, ⟨rfl, rfl, rfl, rfl, rfl, rfl, rfl, rfl⟩, rfl, rfl, id⟩

theorem BusEffect.kept {v : Byte} {s : State} {a : Nat} {r : Res Unit} (h : BusEffect v s a r) : BusKept s r.state := by
  cases h with
  | fatal e => exact .of_setFault s e
  | io off r _ _ he => exact he.kept
  | _ => exact ⟨rfl, ⟨rfl, rfl, rfl, rfl, rfl, rfl, rfl, rfl⟩, rfl, rfl, id⟩

/-- What a write keeps. -/
theorem busWrite_kept (a : Nat) (v : Byte) (s : State) : BusKept s (busWrite a v s).state := (busWrite_effect a v s).kept

theorem busRead16_ok_cpu {a : Word} {s t : State} {v : Byte} (h : busRead16 a s = .ok v t) : t.cpu = s.cpu := by
  have := (busRead_kept a.toNat s).cpu
  rw [show busRead a.toNat s = .ok v t from h] at this
  exact this

theorem busWrite16_ok_cpu {a : Word} {s t : State} {v : Byte} (h : busWrite16 a v s = .ok () t) : t.cpu = s.cpu := by
  have := (busWrite_kept a.toNat v s).cpu
  rw [show busWrite a.toNat v s = .ok () t from h] at this
  exact this

theorem hl_of_cpu {s t : State} (h : t.cpu = s.cpu) : t.hl = s.hl := by simp [State.hl, h]

theorem VideoOnly.fault {s t : State} (h : VideoOnly s t) : t.fault = s.fault := by rw [h]

theorem VideoOnly.freeDraws {s t : State} (h : VideoOnly s t) : t.freeDraws = s.freeDraws := by rw [h]

/-- A write that ends well raises no fault; one that does not sets the fault and nothing else; none draws a free value. -/
def WriteEnds (s : State) (r : Res Unit) : Prop :=
  match r with
  | .ok _ t => t.fault = s.fault ∧ t.freeDraws = s.freeDraws
  | .fatal t => ∃ e, t = s.setFault e

theorem IoEffect.ends {v : Byte} {s : State} {off : Nat} {r : Res Unit} (h : IoEffect v s off r) : WriteEnds s r := by
  cases h with
  | lcdc => exact ⟨(videoOnly_writeLcdc v s).fault, (videoOnly_writeLcdc v s).freeDraws⟩
  | lyc => exact ⟨(videoOnly_compareLyc (s.setIoRaw 0x45 v)).fault, (videoOnly_compareLyc (s.setIoRaw 0x45 v)).freeDraws⟩
  | hdma h =>
    obtain ⟨x, hx⟩ | ⟨e, hx⟩ := writeHdma_cases v s <;> rw [hx]
    · exact ⟨rfl, rfl⟩
    · exact ⟨e, rfl⟩
  | _ => exact ⟨rfl, rfl⟩

theorem BusEffect.ends {v : Byte} {s : State} {a : Nat} {r : Res Unit} (h : BusEffect v s a r) : WriteEnds s r := by
  cases h with
  | fatal e => exact ⟨e, rfl⟩
  | io off r _ _ he => exact he.ends
  | _ => exact ⟨rfl, rfl⟩

/-- How a write ends (R72, R350). -/
theorem busWrite_ends (a : Nat) (v : Byte) (s : State) : WriteEnds s (busWrite a v s) := (busWrite_effect a v s).ends

/-! ### The canonical form of memory -/

theorem VideoOnly.mem {s t : State} (h : VideoOnly s t) : t.mem = s.mem := by rw [h]

theorem wf_setIoRaw {s : State} (h : Memory.wf s.mem) {off : Nat} (ho : off < 128) (v : Byte) :
    Memory.wf (s.setIoRaw off v).mem :=
  ⟨h.1, h.2.1, h.2.2.1, h.2.2.2.1, h.2.2.2.2.1, h.2.2.2.2.2.1, h.2.2.2.2.2.2.1, Bytes.wf_write h.2.2.2.2.2.2.2.1 ho v,
    h.2.2.2.2.2.2.2.2⟩

theorem IoEffect.wf {v : Byte} {s : State} {off : Nat} {r : Res Unit} (h : IoEffect v s off r) (ho : off < 128)
    (hs : Memory.wf s.mem) : Memory.wf r.state.mem := by
  cases h with
  | lcdc => rw [Res.state, (videoOnly_writeLcdc v s).mem]; exact hs
  | lyc => rw [Res.state, writeLyc, compareLyc_mem]; exact wf_setIoRaw hs ho v
  | hdma h =>
    obtain ⟨x, hx⟩ | ⟨e, hx⟩ := writeHdma_cases v s <;> rw [hx] <;> exact hs
  | joyp | stat | dma | key1 | boot | svbk | plain => exact wf_setIoRaw hs ho _
  | _ => exact hs

/-- Every memory operation keeps the canonical form: a write does. -/
theorem busWrite_wf (a : Nat) (v : Byte) {s : State} (hs : Memory.wf s.mem) : Memory.wf (busWrite a v s).state.mem := by
  have h := busWrite_effect a v s
  generalize busWrite a v s = r at h
  obtain ⟨h1, h2, h3, h4, h5, h6, h7, h8, h9⟩ := id hs
  cases h with
  | io off r _ hb he => exact he.wf hb hs
  | vram off _ hb => exact ⟨h1, h2, h3, Bytes.wf_write h4 hb v, h5, h6, h7, h8, h9⟩
  | cartRam off _ hb => exact ⟨h1, h2, h3, h4, Bytes.wf_write h5 hb v, h6, h7, h8, h9⟩
  | wram off _ hb => exact ⟨h1, h2, h3, h4, h5, Bytes.wf_write h6 hb v, h7, h8, h9⟩
  | oam off _ hb => exact ⟨h1, h2, h3, h4, h5, h6, Bytes.wf_write h7 hb v, h8, h9⟩
  | hram off _ hb => exact ⟨h1, h2, h3, h4, h5, h6, h7, h8, Bytes.wf_write h9 hb v⟩
  | _ => exact hs

/-- A read does. -/
theorem busRead_wf (a : Nat) {s : State} (hs : Memory.wf s.mem) : Memory.wf (busRead a s).state.mem := by
  obtain ⟨v, h⟩ | ⟨v, h⟩ | ⟨e, h⟩ := busRead_cases a s <;> rw [h] <;> exact hs

/-- Memory with nothing listed is in canonical form, and so is that of every launch whose loaded bytes are. -/
theorem launch_wf (l : Launch) (hb : ∀ m, l.bootRom = some m → Bytes.wf 256 m)
    (hc : ∀ c, l.cartridge = some c → Bytes.wf 16384 c.rom0 ∧ Bytes.wf cartRomSize c.romX) :
    Memory.wf (State.launch l).mem := by
  have h0 : Bytes.wf 256 (l.bootRom.getD []) := by
    cases h : l.bootRom with
    | none => exact Bytes.wf_nil _
    | some m => exact hb m h
  have h1 : Bytes.wf 16384 ((l.cartridge.map (·.rom0)).getD []) := by
    cases h : l.cartridge with
    | none => exact Bytes.wf_nil _
    | some c => exact (hc c h).1
  have h2 : Bytes.wf cartRomSize ((l.cartridge.map (·.romX)).getD []) := by
    cases h : l.cartridge with
    | none => exact Bytes.wf_nil _
    | some c => exact (hc c h).2
  exact ⟨h0, h1, h2, Bytes.wf_nil _, Bytes.wf_nil _, Bytes.wf_nil _, Bytes.wf_nil _, Bytes.wf_nil _, Bytes.wf_nil _⟩

/-- The memory of the reset state is in canonical form. -/
theorem reset_wf : Memory.wf State.reset.mem :=
  launch_wf _ (fun _ h => by simp [Launch.default] at h) (fun c h => by
    simp only [Launch.default, Option.some.injEq] at h
    subst h
    exact ⟨Bytes.wf_nil _, Bytes.wf_nil _⟩)

/-! ### Independence of the CPU -/

@[simp] theorem State.withCpu_params (s : State) (c : Cpu) : (s.withCpu c).params = s.params := rfl
@[simp] theorem State.withCpu_mode (s : State) (c : Cpu) : (s.withCpu c).mode = s.mode := rfl
@[simp] theorem State.withCpu_banks (s : State) (c : Cpu) : (s.withCpu c).banks = s.banks := rfl
@[simp] theorem State.withCpu_mem (s : State) (c : Cpu) : (s.withCpu c).mem = s.mem := rfl
@[simp] theorem State.withCpu_video (s : State) (c : Cpu) : (s.withCpu c).video = s.video := rfl
@[simp] theorem State.withCpu_hdma (s : State) (c : Cpu) : (s.withCpu c).hdma = s.hdma := rfl
@[simp] theorem State.withCpu_cartLoaded (s : State) (c : Cpu) : (s.withCpu c).cartLoaded = s.cartLoaded := rfl
@[simp] theorem State.withCpu_ints (s : State) (c : Cpu) : (s.withCpu c).ints = s.ints := rfl
@[simp] theorem State.withCpu_timer (s : State) (c : Cpu) : (s.withCpu c).timer = s.timer := rfl
@[simp] theorem State.withCpu_cpu (s : State) (c : Cpu) : (s.withCpu c).cpu = c := rfl
theorem State.withCpu_lyMatch (s : State) (c : Cpu) : (s.withCpu c).lyMatch = s.lyMatch := rfl
theorem State.withCpu_statRaw (s : State) (c : Cpu) : (s.withCpu c).statRaw = s.statRaw := rfl
theorem State.withCpu_hdmaAddr (s : State) (c : Cpu) (x y : Nat) : (s.withCpu c).hdmaAddr x y = s.hdmaAddr x y := rfl

theorem compareLyc_withCpu (s : State) (c : Cpu) : compareLyc (s.withCpu c) = (compareLyc s).withCpu c := by
  rw [compareLyc_eq, compareLyc_eq]
  rfl

theorem writeLcdc_withCpu (v : Byte) (s : State) (c : Cpu) : writeLcdc v (s.withCpu c) = (writeLcdc v s).withCpu c := by
  have h1 : ∀ u : State, (u.withCpu c).video = u.video := fun _ => rfl
  have h2 : ∀ (u : State) x, (u.withCpu c).setVideo x = (u.setVideo x).withCpu c := fun _ _ => rfl
  unfold writeLcdc
  simp only [h1, h2]
  split
  · unfold lcdDisable setLine
    simp only [h1, h2, compareLyc_withCpu]
  · split <;> rfl

theorem writeHdma_withCpu (v : Byte) (s : State) (c : Cpu) :
    writeHdma v (s.withCpu c) = (writeHdma v s).map (State.withCpu c) := by
  unfold writeHdma
  simp only [apply_ite (Res.map (State.withCpu c))]
  rfl

/-- A write to an I/O offset does not depend on the CPU's state. -/
theorem ioWrite_withCpu (off : Nat) (v : Byte) (s : State) (c : Cpu) :
    ioWrite off v (s.withCpu c) = (ioWrite off v s).map (State.withCpu c) := by
  unfold ioWrite
  simp only [writeLcdc_withCpu, writeHdma_withCpu, cgbWrite]
  split
  · rfl
  · split <;> try rfl
    · exact congrArg (Res.ok ()) (compareLyc_withCpu (s.setIoRaw 0x45 v) c)
    all_goals (simp only [apply_ite (Res.map (State.withCpu c))]; rfl)

/-- Nor does a write to a cartridge ROM address, its hook included. -/
theorem cartRomWrite_withCpu (a : Nat) (v : Byte) (s : State) (c : Cpu) :
    cartRomWrite a v (s.withCpu c) = (cartRomWrite a v s).map (State.withCpu c) := by
  unfold cartRomWrite
  simp only [State.withCpu_banks, State.withCpu_params, apply_ite (Res.map (State.withCpu c))]
  cases s.params.cartWrite
  · rfl
  · rfl
  · cases Config.cartHook s.banks.cart a v <;> rfl

/-- A write does not depend on the CPU's state. -/
theorem busWrite_withCpu (a : Nat) (v : Byte) (s : State) (c : Cpu) :
    busWrite a v (s.withCpu c) = (busWrite a v s).map (State.withCpu c) := by
  unfold busWrite
  simp only [ioWrite_withCpu, State.withCpu_banks, cartRomWrite_withCpu, cartRamWrite]
  split <;> try rfl
  simp only [apply_ite (Res.map (State.withCpu c))]
  rfl

/-- What an observer reads does not depend on the CPU's state. -/
theorem peek_withCpu (s : State) (c : Cpu) (a : Nat) : (s.withCpu c).peek a = s.peek a := by
  unfold State.peek
  rw [busRead_withCpu]
  cases busRead a s <;> rfl

end Sys2Proof.Machine
end

