-- ==== Sys2Proof/Laws/Reach.lean ====
section
/-! SUPPORT. An instruction acts on the machine outside the CPU only through Bus accesses. Said once, so that whatever Bus
accesses and changes of the CPU keep, every instruction keeps. -/

namespace Sys2Proof.Machine

/-- The states the CPU's own operations lead to: any change of the CPU that `P` allows, any Bus access, any fatal error. -/
inductive Reach (P : Cpu → Cpu → Prop) (s : State) : State → Prop where
  | refl : Reach P s s
  | cpu {t : State} (h : Reach P s t) (c : Cpu) (hc : P t.cpu c) : Reach P s (t.withCpu c)
  | read {t : State} (h : Reach P s t) (a : Nat) : Reach P s (busRead a t).state
  | write {t : State} (h : Reach P s t) (a : Nat) (v : Byte) : Reach P s (busWrite a v t).state
  | fault {t : State} (h : Reach P s t) (e : Fault) : Reach P s (t.setFault e)

theorem Reach.trans {P : Cpu → Cpu → Prop} {s t u : State} (h : Reach P s t) (h' : Reach P t u) : Reach P s u := by
  induction h' with
  | refl => exact h
  | cpu _ c hc ih => exact ih.cpu c hc
  | read _ a ih => exact ih.read a
  | write _ a v ih => exact ih.write a v
  | fault _ e ih => exact ih.fault e

theorem Reach.mono {P Q : Cpu → Cpu → Prop} (hpq : ∀ c c', P c c' → Q c c') {s t : State} (h : Reach P s t) :
    Reach Q s t := by
  induction h with
  | refl => exact .refl
  | cpu _ c hc ih => exact ih.cpu c (hpq _ _ hc)
  | read _ a ih => exact ih.read a
  | write _ a v ih => exact ih.write a v
  | fault _ e ih => exact ih.fault e

/-- What Bus accesses, the changes of the CPU and fatal errors keep, an operation keeps. -/
theorem Reach.induct {P : Cpu → Cpu → Prop} {I : State → Prop} (hc : ∀ t c, P t.cpu c → I t → I (t.withCpu c))
    (hr : ∀ t a, I t → I (busRead a t).state) (hw : ∀ t a v, I t → I (busWrite a v t).state)
    (hf : ∀ t e, I t → I (t.setFault e)) {s t : State} (h : Reach P s t) (hs : I s) : I t := by
  induction h with
  | refl => exact hs
  | cpu _ c h ih => exact hc _ c h ih
  | read _ a ih => exact hr _ a ih
  | write _ a v ih => exact hw _ a v ih
  | fault _ e ih => exact hf _ e ih

/-- The change of the CPU leaves its control state alone, and the low bits of F 0 if they were. -/
structure CtlKept (c c' : Cpu) : Prop where
  ime : c'.ime = c.ime
  runState : c'.runState = c.runState
  haltBug : c'.haltBug = c.haltBug
  pendingCycles : c'.pendingCycles = c.pendingCycles
  opcodeAddr : c'.opcodeAddr = c.opcodeAddr
  flagsLow : c.f &&& 0x0F = 0 → c'.f &&& 0x0F = 0

theorem CtlKept.refl (c : Cpu) : CtlKept c c := ⟨rfl, rfl, rfl, rfl, rfl, id⟩

theorem CtlKept.trans {c d e : Cpu} (h : CtlKept c d) (h' : CtlKept d e) : CtlKept c e :=
  ⟨h'.1.trans h.1, h'.2.trans h.2, h'.3.trans h.3, h'.4.trans h.4, h'.5.trans h.5, fun x => h'.6 (h.6 x)⟩

/-- F as `setF` writes it has its low bits 0 (R25). -/
theorem low_setF (v : Byte) : v &&& 0xF0 &&& 0x0F = 0 := by
  rw [BitVec.and_assoc]
  exact BitVec.and_zero

/-- So does an operation built of such changes. -/
theorem Reach.ctl {s t : State} (h : Reach CtlKept s t) : CtlKept s.cpu t.cpu :=
  h.induct (I := fun t => CtlKept s.cpu t.cpu) (fun _ _ hc hi => hi.trans hc)
    (fun t a hi => by rw [(busRead_kept a t).cpu]; exact hi) (fun t a v hi => by rw [(busWrite_kept a v t).cpu]; exact hi)
    (fun _ _ hi => hi) (.refl _)

/-- How an operation from `s` ends: well, at a reached state with no fault raised, or in a fatal error, with the fault set
(R350). -/
def Res.From {α : Type} (r : Res α) (s : State) : Prop :=
  match r with
  | .ok _ t => Reach CtlKept s t ∧ t.fault = s.fault
  | .fatal t => Reach CtlKept s t ∧ t.fault ≠ none

theorem Res.From.reach {α : Type} {r : Res α} {s : State} (h : r.From s) : Reach CtlKept s r.state := by
  cases r <;> exact h.1

theorem Res.From.ok {α : Type} {s t : State} {v : α} (h : Reach CtlKept s t) (hf : t.fault = s.fault := by rfl) :
    (Res.ok v t).From s := ⟨h, hf⟩

theorem Res.From.after {α : Type} {r : Res α} {s t : State} (h : r.From t) (ht : Reach CtlKept s t)
    (hf : t.fault = s.fault := by rfl) : r.From s := by
  cases r with
  | ok v u => exact ⟨ht.trans h.1, h.2.trans hf⟩
  | fatal u => exact ⟨ht.trans h.1, h.2⟩

theorem Res.From.bind {α β : Type} {r : Res α} {f : α → State → Res β} {s : State} (h : r.From s)
    (hf : ∀ v t, r = .ok v t → (f v t).From t) : (r.bind f).From s := by
  cases r with
  | ok v t => exact (hf v t rfl).after h.1 h.2
  | fatal t => exact h

/-- A change of the register file that writes no F. -/
theorem Reach.regs {s : State} (c : Cpu) (h1 : c.ime = s.cpu.ime) (h2 : c.runState = s.cpu.runState)
    (h3 : c.haltBug = s.cpu.haltBug) (h4 : c.pendingCycles = s.cpu.pendingCycles) (h5 : c.opcodeAddr = s.cpu.opcodeAddr)
    (h6 : c.f = s.cpu.f) : Reach CtlKept s (s.withCpu c) :=
  .cpu .refl c ⟨h1, h2, h3, h4, h5, fun x => by rw [h6]; exact x⟩

theorem Reach.setPc (s : State) (v : Word) : Reach CtlKept s (s.setPc v) := .regs _ rfl rfl rfl rfl rfl rfl

theorem Reach.setSp (s : State) (v : Word) : Reach CtlKept s (s.setSp v) := .regs _ rfl rfl rfl rfl rfl rfl

theorem Reach.setA (s : State) (v : Byte) : Reach CtlKept s (s.setA v) := .regs _ rfl rfl rfl rfl rfl rfl

theorem Reach.setHl (s : State) (v : Word) : Reach CtlKept s (s.setHl v) := .regs _ rfl rfl rfl rfl rfl rfl

theorem Reach.setF (s : State) (v : Byte) : Reach CtlKept s (s.setF v) :=
  .cpu .refl _ ⟨rfl, rfl, rfl, rfl, rfl, fun _ => low_setF v⟩

theorem Reach.setFlags (s : State) (z n h c : Bool) : Reach CtlKept s (s.setFlags z n h c) := .setF s _

theorem Reach.setReg (s : State) (r : R8) (v : Byte) : Reach CtlKept s (s.setReg r v) := by
  cases r
  case mHL => exact .refl
  all_goals exact .regs _ rfl rfl rfl rfl rfl rfl

theorem Reach.setPair (s : State) (p : R16) (v : Word) : Reach CtlKept s (s.setPair p v) := by
  cases p <;> exact .regs _ rfl rfl rfl rfl rfl rfl

theorem Reach.setStkPair (s : State) (p : R16Stk) (v : Word) : Reach CtlKept s (s.setStkPair p v) := by
  cases p
  case af => exact (Reach.setA s _).trans (.setF _ _)
  all_goals exact .regs _ rfl rfl rfl rfl rfl rfl

theorem Reach.stepPtr (s : State) (p : R16Mem) : Reach CtlKept s (s.stepPtr p) := by
  cases p
  case hlInc => exact .setHl s _
  case hlDec => exact .setHl s _
  all_goals exact .refl

theorem Reach.alu (s : State) (op : AluOp) (x : Byte) : Reach CtlKept s (s.alu op x) := by
  unfold State.alu
  simp only
  split
  · exact .setFlags s _ _ _ _
  · exact (Reach.setA s _).trans (.setFlags _ _ _ _ _)

theorem alu_fault (s : State) (op : AluOp) (x : Byte) : (s.alu op x).fault = s.fault := by
  unfold State.alu
  simp only
  split <;> rfl

theorem setPair_fault (s : State) (p : R16) (v : Word) : (s.setPair p v).fault = s.fault := by cases p <;> rfl

theorem Reach.rotateA (s : State) (op : ShiftOp) : Reach CtlKept s (rotateA op s) :=
  (Reach.setA s _).trans (.setFlags _ _ _ _ _)

theorem Reach.addHl (s : State) (p : R16) : Reach CtlKept s (addHl p s) := (Reach.setHl s _).trans (.setFlags _ _ _ _ _)

theorem Reach.jumpRelative (s : State) (e : Byte) : Reach CtlKept s (jumpRelative e s) := .setPc s _

theorem from_busRead16 (a : Word) (s : State) : (busRead16 a s).From s := by
  have h : Reach CtlKept s (busRead a.toNat s).state := .read .refl _
  unfold busRead16
  obtain ⟨v, h'⟩ | ⟨v, h'⟩ | ⟨e, h'⟩ := busRead_cases a.toNat s <;> rw [h'] at h ⊢
  · exact .ok h
  · exact .ok h
  · exact ⟨h, by simp⟩

theorem from_busWrite16 (a : Word) (v : Byte) (s : State) : (busWrite16 a v s).From s := by
  have h : Reach CtlKept s (busWrite a.toNat v s).state := .write .refl _ _
  have h' := busWrite_ends a.toNat v s
  unfold busWrite16
  generalize busWrite a.toNat v s = r at h h'
  cases r with
  | ok _ t => exact ⟨h, h'.1⟩
  | fatal t =>
    obtain ⟨e, rfl⟩ := h'
    exact ⟨h, by simp⟩

theorem from_readR8 (r : R8) (s : State) : (readR8 r s).From s := by
  cases r
  case mHL => exact from_busRead16 _ s
  all_goals exact .ok Reach.refl

theorem from_writeR8 (r : R8) (v : Byte) (s : State) : (writeR8 r v s).From s := by
  cases r
  case mHL => exact from_busWrite16 _ v s
  case b => exact .ok (Reach.setReg s .b v)
  case c => exact .ok (Reach.setReg s .c v)
  case d => exact .ok (Reach.setReg s .d v)
  case e => exact .ok (Reach.setReg s .e v)
  case h => exact .ok (Reach.setReg s .h v)
  case l => exact .ok (Reach.setReg s .l v)
  case a => exact .ok (Reach.setReg s .a v)

theorem from_push16 (v : Word) (s : State) : (push16 v s).From s := by
  unfold push16
  exact .bind ((from_busWrite16 _ _ _).after (.setSp s _)) fun _ t _ =>
    (from_busWrite16 _ _ _).after (.setSp t _)

theorem from_pop16 (s : State) : (pop16 s).From s := by
  unfold pop16
  exact .bind (from_busRead16 _ s) fun _ t _ =>
    .bind ((from_busRead16 _ _).after (.setSp t _)) fun _ u _ => .ok (Reach.setSp u _)

theorem from_callTo (a : Word) (s : State) : (callTo a s).From s := .bind (from_push16 _ s) fun _ t _ => .ok (Reach.setPc t a)

theorem from_ret (s : State) : (ret s).From s := .bind (from_pop16 s) fun v t _ => .ok (Reach.setPc t v)

theorem from_imm8 (s : State) : (imm8 s).From s := .bind (from_busRead16 _ s) fun _ t _ => .ok (Reach.setPc t _)

theorem from_memWriteWord (a v : Word) (s : State) : (memWriteWord a v s).From s :=
  .bind (from_busWrite16 _ _ s) fun _ t _ => from_busWrite16 _ _ t

theorem from_loadA (a : Word) (s : State) : (loadA a s).From s := .bind (from_busRead16 _ s) fun v t _ => .ok (Reach.setA t v)

theorem from_storeA (a : Word) (s : State) : (storeA a s).From s := from_busWrite16 _ _ s

theorem from_ld (y z : R8) (s : State) : (ld y z s).From s := .bind (from_readR8 z s) fun v t _ => from_writeR8 y v t

theorem from_loadAPtr (p : R16Mem) (s : State) : (loadAPtr p s).From s :=
  .bind (from_loadA _ s) fun _ t _ => .ok (Reach.stepPtr t p) (by cases p <;> rfl)

theorem from_storeAPtr (p : R16Mem) (s : State) : (storeAPtr p s).From s :=
  .bind (from_storeA _ s) fun _ t _ => .ok (Reach.stepPtr t p) (by cases p <;> rfl)

theorem from_aluR8 (op : AluOp) (z : R8) (s : State) : (aluR8 op z s).From s :=
  .bind (from_readR8 z s) fun x t _ => .ok (Reach.alu t op x) (alu_fault t op x)

theorem from_stepR8 (f : Byte → Bool → AluResult) (y : R8) (s : State) : (stepR8 f y s).From s :=
  .bind (from_readR8 y s) fun _ t _ => .bind ((from_writeR8 y _ _).after (Reach.setFlags t _ _ _ _)) fun _ u _ =>
    .ok (Reach.setFlags u _ _ _ _)

theorem from_shiftR8 (op : ShiftOp) (z : R8) (s : State) : (shiftR8 op z s).From s :=
  .bind (from_readR8 z s) fun _ t _ => .bind (from_writeR8 z _ t) fun _ u _ => .ok (Reach.setFlags u _ _ _ _)

theorem from_bitR8 (b : Nat) (z : R8) (s : State) : (bitR8 b z s).From s :=
  .bind (from_readR8 z s) fun _ t _ => .ok (Reach.setFlags t _ _ _ _)

theorem from_resR8 (b : Nat) (z : R8) (s : State) : (resR8 b z s).From s :=
  .bind (from_readR8 z s) fun _ t _ => from_writeR8 z _ t

theorem from_setR8 (b : Nat) (z : R8) (s : State) : (setR8 b z s).From s :=
  .bind (from_readR8 z s) fun _ t _ => from_writeR8 z _ t

/-- An instruction of the alternate table. -/
theorem from_execPrefixed (op2 : Byte) (s : State) : (execPrefixed op2 s).From s := by
  unfold execPrefixed
  refine .bind ?_ fun _ _ _ => .ok (Reach.refl)
  split
  · exact from_shiftR8 _ _ s
  · exact from_bitR8 _ _ s
  · exact from_resR8 _ _ s
  · exact from_setR8 _ _ s

theorem from_whenCond {cc : Cond} {m n : Nat} {f : State → Res Unit} {s : State} (h : (f s).From s) :
    (whenCond cc m n f s).From s := by
  unfold whenCond
  split
  · exact .bind h fun _ _ _ => .ok (Reach.refl)
  · exact .ok .refl

/-- The costs of a conditional instruction. -/
theorem whenCond_cost {cc : Cond} {m n k : Nat} {f : State → Res Unit} {s t : State} (h : whenCond cc m n f s = .ok k t) :
    k = m ∨ k = n := by
  unfold whenCond at h
  split at h
  · obtain ⟨_, _, _, h⟩ := Res.bind_eq_ok.mp h
    simp at h
    exact .inl h.1.symm
  · simp at h
    exact .inr h.1.symm

/-- The alternate table's costs. -/
theorem execPrefixed_cost {op2 : Byte} {k : Nat} {s t : State} (h : execPrefixed op2 s = .ok k t) : 1 ≤ k ∧ k ≤ 3 := by
  obtain ⟨_, _, _, h⟩ := Res.bind_eq_ok.mp h
  simp only [Res.ok.injEq] at h
  rw [← h.1]
  unfold tableCost
  repeat' split
  all_goals omega

/-! ### Instructions -/

/-- How an instruction ends: completed, with at most five more cycles to wait (R30) and no fault raised, or stopped by a
fatal error where its operation stood. -/
inductive Ends (s : State) : State → Prop where
  | done {u : State} (h : Reach CtlKept s u) (hf : u.fault = s.fault) (k : Nat) (hk : k ≤ 5) : Ends s (u.setPending k)
  | stopped {u : State} (h : Reach CtlKept s u) (hf : u.fault ≠ none) : Ends s u

theorem finish_ends {c : Nat} {r : Res Unit} {s : State} (h : r.From s) (hc : c ≤ 6) :
    ∃ t, finish c r = .next t ∧ Ends s t := by
  cases r with
  | ok v t => exact ⟨_, rfl, .done h.1 h.2 _ (by omega)⟩
  | fatal t => exact ⟨_, rfl, .stopped h.1 h.2⟩

theorem finishWith_ends {r : Res Nat} {s : State} (h : r.From s) (hc : ∀ k t, r = .ok k t → k ≤ 6) :
    ∃ t, finishWith r = .next t ∧ Ends s t := by
  cases r with
  | ok v t => exact ⟨_, rfl, .done h.1 h.2 _ (by have := hc v t rfl; omega)⟩
  | fatal t => exact ⟨_, rfl, .stopped h.1 h.2⟩

theorem whenCond_ends {cc : Cond} {m n : Nat} {f : State → Res Unit} {s : State} (h : (f s).From s) (hm : m ≤ 6)
    (hn : n ≤ 6) : ∃ t, finishWith (whenCond cc m n f s) = .next t ∧ Ends s t :=
  finishWith_ends (from_whenCond h) fun k _ hk => by
    obtain rfl | rfl := whenCond_cost hk
    · exact hm
    · exact hn

/-- The instructions that change the CPU's control state beside their cost. -/
def Instr.control : Instr → Bool
  | .halt | .stop _ | .di | .ei | .reti => true
  | _ => false

/-- Every other instruction answers a next state, reached through changes of the registers and Bus accesses. -/
theorem exec_ends (i : Instr) (s : State) (hi : Instr.control i = false) : ∃ t, exec i s = .next t ∧ Ends s t := by
  cases i.shape with
  | ld y z h => rw [exec_mkLd y z h]; exact finish_ends (from_ld y z s) (by split <;> omega)
  | alu op z => rw [exec_mkAlu]; exact finish_ends (from_aluR8 op z s) (by split <;> omega)
  | aluImm op n => rw [exec_mkAluImm]; exact finish_ends (.ok (Reach.alu s op n) (alu_fault s op n)) (by omega)
  | inc8 y => rw [exec_mkInc8]; exact finish_ends (from_stepR8 _ y s) (by split <;> omega)
  | dec8 y => rw [exec_mkDec8]; exact finish_ends (from_stepR8 _ y s) (by split <;> omega)
  | ldImm y n => rw [exec_mkLdImm]; exact finish_ends (from_writeR8 y n s) (by split <;> omega)
  | ldPairImm p a => rw [exec_mkLdPairImm]; exact finish_ends (.ok (Reach.setPair s p a) (setPair_fault s p a)) (by omega)
  | addHl p => rw [exec_mkAddHl]; exact finish_ends (.ok (Reach.addHl s p)) (by omega)
  | inc16 p => rw [exec_mkInc16]; exact finish_ends (.ok (Reach.setPair s p _) (setPair_fault s p _)) (by omega)
  | dec16 p => rw [exec_mkDec16]; exact finish_ends (.ok (Reach.setPair s p _) (setPair_fault s p _)) (by omega)
  | storeA p => rw [exec_mkStoreA]; exact finish_ends (from_storeAPtr p s) (by omega)
  | loadA p => rw [exec_mkLoadA]; exact finish_ends (from_loadAPtr p s) (by omega)
  | push p => rw [exec_mkPush]; exact finish_ends (from_push16 _ s) (by omega)
  | pop p =>
    rw [exec_mkPop]
    exact finish_ends (.bind (from_pop16 s) fun v t _ => .ok (Reach.setStkPair t p v) (by cases p <;> rfl)) (by omega)
  | jrCc cc n => rw [exec_mkJrCc]; exact whenCond_ends (.ok (Reach.jumpRelative s n)) (by omega) (by omega)
  | jpCc cc a => rw [exec_mkJpCc]; exact whenCond_ends (.ok (Reach.setPc s a)) (by omega) (by omega)
  | callCc cc a => rw [exec_mkCallCc]; exact whenCond_ends (from_callTo a s) (by omega) (by omega)
  | retCc cc => rw [exec_mkRetCc]; exact whenCond_ends (from_ret s) (by omega) (by omega)
  | rst k => rw [exec_mkRst]; exact finish_ends (from_callTo _ s) (by omega)
  | shift op z => rw [exec_mkShift]; exact finish_ends (from_shiftR8 op z s) (by split <;> omega)
  | bit k z => rw [exec_mkBit]; exact finish_ends (from_bitR8 k z s) (by split <;> omega)
  | res k z => rw [exec_mkRes]; exact finish_ends (from_resR8 k z s) (by split <;> omega)
  | set k z => rw [exec_mkSet]; exact finish_ends (from_setR8 k z s) (by split <;> omega)
  | ld_ma16_SP a => exact finish_ends (c := 5) (from_memWriteWord _ _ s) (by omega)
  | call_a16 a => exact finish_ends (c := 6) (from_callTo a s) (by omega)
  | ret => exact finish_ends (c := 4) (from_ret s) (by omega)
  | prefix_CB =>
    refine finishWith_ends
      (.bind (from_imm8 s) fun op2 t _ => .bind (from_execPrefixed op2 t) fun c u _ => .ok (v := 1 + c) .refl) ?_
    intro k t h
    obtain ⟨op2, u, _, h⟩ := Res.bind_eq_ok.mp h
    obtain ⟨c, w, hx, h⟩ := Res.bind_eq_ok.mp h
    have := execPrefixed_cost hx
    simp only [Res.ok.injEq] at h
    omega
  | unknown op => exact ⟨_, rfl, .stopped (.fault .refl _) (by simp)⟩
  | ldh_ma8_A o => exact finish_ends (c := 3) (from_storeA _ s) (by omega)
  | ld_mC_A => exact finish_ends (c := 2) (from_storeA _ s) (by omega)
  | ld_ma16_A a => exact finish_ends (c := 4) (from_storeA _ s) (by omega)
  | ldh_A_ma8 o => exact finish_ends (c := 3) (from_loadA _ s) (by omega)
  | ld_A_mC => exact finish_ends (c := 2) (from_loadA _ s) (by omega)
  | ld_A_ma16 a => exact finish_ends (c := 4) (from_loadA _ s) (by omega)
  | nop => exact finish_ends (c := 1) (.ok (v := ()) .refl) (by omega)
  | rlca => exact finish_ends (c := 1) (.ok (v := ()) (Reach.rotateA s .rlc)) (by omega)
  | rrca => exact finish_ends (c := 1) (.ok (v := ()) (Reach.rotateA s .rrc)) (by omega)
  | rla => exact finish_ends (c := 1) (.ok (v := ()) (Reach.rotateA s .rl)) (by omega)
  | rra => exact finish_ends (c := 1) (.ok (v := ()) (Reach.rotateA s .rr)) (by omega)
  | daa => exact finish_ends (c := 1) (.ok (v := ()) ((Reach.setA s _).trans (.setFlags _ _ _ _ _))) (by omega)
  | cpl => exact finish_ends (c := 1) (.ok (v := ()) ((Reach.setA s _).trans (.setFlags _ _ _ _ _))) (by omega)
  | scf => exact finish_ends (c := 1) (.ok (v := ()) (Reach.setFlags s _ _ _ _)) (by omega)
  | ccf => exact finish_ends (c := 1) (.ok (v := ()) (Reach.setFlags s _ _ _ _)) (by omega)
  | jr_e8 e => exact finish_ends (c := 3) (.ok (v := ()) (Reach.jumpRelative s e)) (by omega)
  | jp_a16 a => exact finish_ends (c := 4) (.ok (v := ()) (Reach.setPc s a)) (by omega)
  | jp_HL => exact finish_ends (c := 1) (.ok (v := ()) (Reach.setPc s _)) (by omega)
  | add_SP_e8 e => exact finish_ends (c := 4) (.ok (v := ()) ((Reach.setSp s _).trans (.setFlags _ _ _ _ _))) (by omega)
  | ld_HL_SPe8 e => exact finish_ends (c := 3) (.ok (v := ()) ((Reach.setHl s _).trans (.setFlags _ _ _ _ _))) (by omega)
  | ld_SP_HL => exact finish_ends (c := 2) (.ok (v := ()) (Reach.setSp s _)) (by omega)
  | halt | stop | di | ei | reti => exact absurd hi (by simp [Instr.control])

/-- Any change of the CPU. -/
abbrev AnyCpu (_ _ : Cpu) : Prop := True

theorem Ends.reach {s t : State} (h : Ends s t) : Reach AnyCpu s t := by
  cases h with
  | done h hf k hk => exact .cpu (h.mono fun _ _ _ => trivial) _ trivial
  | stopped h hf => exact h.mono fun _ _ _ => trivial

/-- Every instruction answers a next state, reached through changes of the CPU and Bus accesses. -/
theorem exec_reach (i : Instr) (s : State) : ∃ t, exec i s = .next t ∧ Reach AnyCpu s t := by
  by_cases hi : Instr.control i = false
  · obtain ⟨t, h, h'⟩ := exec_ends i s hi
    exact ⟨t, h, h'.reach⟩
  · cases i <;> try exact absurd rfl hi
    · exact ⟨_, rfl, .cpu .refl _ trivial⟩
    · refine ⟨(haltCpu s).setPending 0, rfl, .cpu ?_ _ trivial⟩
      unfold haltCpu
      repeat' split
      all_goals exact .cpu .refl _ trivial
    · have h := from_pop16 s
      show ∃ t, finish 4 (returnFromInterrupt s) = .next t ∧ _
      unfold returnFromInterrupt
      cases hr : pop16 s with
      | ok v t =>
        rw [hr] at h
        exact ⟨_, rfl, .cpu (.cpu (h.1.mono fun _ _ _ => trivial) _ trivial) _ trivial⟩
      | fatal t =>
        rw [hr] at h
        exact ⟨_, rfl, h.1.mono fun _ _ _ => trivial⟩
    · exact ⟨_, rfl, .cpu .refl _ trivial⟩
    · exact ⟨_, rfl, .cpu .refl _ trivial⟩

/-- What an operation keeps outside the CPU. -/
theorem Reach.kept {P : Cpu → Cpu → Prop} {s t : State} (h : Reach P s t) :
    FixedKept s t ∧ t.buttons = s.buttons ∧ t.host = s.host ∧
      (t.banks.bootRomEnabled = true → s.banks.bootRomEnabled = true) := by
  refine h.induct (I := fun t => FixedKept s t ∧ t.buttons = s.buttons ∧ t.host = s.host ∧
      (t.banks.bootRomEnabled = true → s.banks.bootRomEnabled = true)) ?_ ?_ ?_ ?_ ⟨.refl s, rfl, rfl, id⟩
  · exact fun t c _ ⟨h1, h2, h3, h4⟩ => ⟨⟨h1.1, h1.2, h1.3, h1.4, h1.5, h1.6, h1.7, h1.8⟩, h2, h3, h4⟩
  · intro t a ⟨h1, h2, h3, h4⟩
    have k := busRead_kept a t
    exact ⟨h1.trans k.2, k.3.trans h2, k.4.trans h3, fun x => h4 (k.5 x)⟩
  · intro t a v ⟨h1, h2, h3, h4⟩
    have k := busWrite_kept a v t
    exact ⟨h1.trans k.2, k.3.trans h2, k.4.trans h3, fun x => h4 (k.5 x)⟩
  · exact fun t c ⟨h1, h2, h3, h4⟩ => ⟨⟨h1.1, h1.2, h1.3, h1.4, h1.5, h1.6, h1.7, h1.8⟩, h2, h3, h4⟩

/-- Every operation of the CPU keeps the canonical form of memory. -/
theorem Reach.wf {P : Cpu → Cpu → Prop} {s t : State} (h : Reach P s t) (hs : Memory.wf s.mem) : Memory.wf t.mem :=
  h.induct (I := fun t => Memory.wf t.mem) (fun _ _ _ => id) (fun _ a => busRead_wf a) (fun _ a v => busWrite_wf a v)
    (fun _ _ => id) hs

end Sys2Proof.Machine
end

