-- ==== Sys2Proof/Laws/Inv.lean ====
section
/-! SUPPORT. The parts of the invariant outside the CPU, and that every Bus access keeps them. -/

namespace Sys2Proof.Machine

/-- The invariant but for the CPU's part. -/
structure OuterInv (s : State) : Prop where
  mem : Memory.wf s.mem
  banks : s.BanksInv
  oamDma : s.OamInv
  hdma : s.HdmaInv
  video : s.VideoInv
  io : s.IoInv

theorem OuterInv.withCpu {s : State} (h : OuterInv s) (c : Cpu) : OuterInv (s.withCpu c) :=
  ⟨h.1, ⟨h.2.1, h.2.2, h.2.3⟩, ⟨h.3.1, h.3.2, h.3.3, h.3.4⟩, ⟨h.4.1, h.4.2, h.4.3, h.4.4, h.4.5⟩,
    ⟨h.5.1, h.5.2, h.5.3, h.5.4, h.5.5, h.5.6, h.5.7, h.5.8, h.5.9, h.5.10, h.5.11, h.5.12, h.5.13⟩, ⟨h.6.1, h.6.2, h.6.3⟩⟩

theorem OuterInv.setFault {s : State} (h : OuterInv s) (e : Fault) : OuterInv (s.setFault e) :=
  ⟨h.1, ⟨h.2.1, h.2.2, h.2.3⟩, ⟨h.3.1, h.3.2, h.3.3, fun x => by simp at x⟩, ⟨h.4.1, h.4.2, h.4.3, h.4.4, h.4.5⟩,
    ⟨h.5.1, h.5.2, h.5.3, h.5.4, h.5.5, h.5.6, h.5.7, h.5.8, h.5.9, h.5.10, h.5.11, h.5.12, h.5.13⟩, ⟨h.6.1, h.6.2, h.6.3⟩⟩

theorem OuterInv.drawFree {s : State} (h : OuterInv s) : OuterInv s.drawFree :=
  ⟨h.1, ⟨h.2.1, h.2.2, h.2.3⟩, ⟨h.3.1, h.3.2, h.3.3, h.3.4⟩, ⟨h.4.1, h.4.2, h.4.3, h.4.4, h.4.5⟩,
    ⟨h.5.1, h.5.2, h.5.3, h.5.4, h.5.5, h.5.6, h.5.7, h.5.8, h.5.9, h.5.10, h.5.11, h.5.12, h.5.13⟩, ⟨h.6.1, h.6.2, h.6.3⟩⟩

theorem OuterInv.setIF {s : State} (h : OuterInv s) (v : BitVec 5) : OuterInv (s.setIF v) :=
  ⟨h.1, ⟨h.2.1, h.2.2, h.2.3⟩, ⟨h.3.1, h.3.2, h.3.3, h.3.4⟩, ⟨h.4.1, h.4.2, h.4.3, h.4.4, h.4.5⟩,
    ⟨h.5.1, h.5.2, h.5.3, h.5.4, h.5.5, h.5.6, h.5.7, h.5.8, h.5.9, h.5.10, h.5.11, h.5.12, h.5.13⟩, ⟨h.6.1, h.6.2, h.6.3⟩⟩

theorem OuterInv.setIE {s : State} (h : OuterInv s) (v : BitVec 5) : OuterInv (s.setIE v) :=
  ⟨h.1, ⟨h.2.1, h.2.2, h.2.3⟩, ⟨h.3.1, h.3.2, h.3.3, h.3.4⟩, ⟨h.4.1, h.4.2, h.4.3, h.4.4, h.4.5⟩,
    ⟨h.5.1, h.5.2, h.5.3, h.5.4, h.5.5, h.5.6, h.5.7, h.5.8, h.5.9, h.5.10, h.5.11, h.5.12, h.5.13⟩, ⟨h.6.1, h.6.2, h.6.3⟩⟩

theorem OuterInv.setTimer {s : State} (h : OuterInv s) (v : Timer) : OuterInv (s.setTimer v) :=
  ⟨h.1, ⟨h.2.1, h.2.2, h.2.3⟩, ⟨h.3.1, h.3.2, h.3.3, h.3.4⟩, ⟨h.4.1, h.4.2, h.4.3, h.4.4, h.4.5⟩,
    ⟨h.5.1, h.5.2, h.5.3, h.5.4, h.5.5, h.5.6, h.5.7, h.5.8, h.5.9, h.5.10, h.5.11, h.5.12, h.5.13⟩, ⟨h.6.1, h.6.2, h.6.3⟩⟩

/-- What the cartridge shows may change. -/
theorem OuterInv.setCart {s : State} (h : OuterInv s) (w : CartSelect) : OuterInv (s.setBanks { s.banks with cart := w }) :=
  ⟨h.1, ⟨h.2.1, h.2.2, h.2.3⟩, ⟨h.3.1, h.3.2, h.3.3, h.3.4⟩, ⟨h.4.1, h.4.2, h.4.3, h.4.4, h.4.5⟩,
    ⟨h.5.1, h.5.2, h.5.3, h.5.4, h.5.5, h.5.6, h.5.7, h.5.8, h.5.9, h.5.10, h.5.11, h.5.12, h.5.13⟩, ⟨h.6.1, h.6.2, h.6.3⟩⟩

/-- Memory other than the I/O segment may change, in canonical form. -/
theorem OuterInv.setMem {s : State} (h : OuterInv s) {m : Memory} (hm : Memory.wf m) (hio : m.io = s.mem.io) :
    OuterInv (s.setMem m) := by
  have hl : (s.setMem m).lyMatch = s.lyMatch := by simp [State.lyMatch, State.lyc, State.ioRaw, hio]
  have hr : ∀ off, (s.setMem m).ioRaw off = s.ioRaw off := fun off => by simp [State.ioRaw, hio]
  refine ⟨hm, ⟨h.2.1, h.2.2, h.2.3⟩, ⟨h.3.1, h.3.2, h.3.3, h.3.4⟩, ⟨h.4.1, h.4.2, h.4.3, h.4.4, h.4.5⟩,
    ⟨h.5.1, h.5.2, h.5.3, h.5.4, h.5.5, h.5.6, ?_, h.5.8, h.5.9, h.5.10, h.5.11, h.5.12, h.5.13⟩, ⟨?_, ?_, ?_⟩⟩
  · rw [hl]; exact h.5.7
  · rw [hr]; exact h.6.1
  · rw [hr]; exact h.6.2
  · intro hg; rw [hr]; exact h.6.3 hg

/-- A stored byte of an I/O offset whose bits nothing else constrains may change; LYC apart. -/
theorem OuterInv.setIoRaw {s : State} (h : OuterInv s) {off : Nat} (ho : off < 128) (v : Byte) (hl : off ≠ 0x45)
    (h0 : off = 0x00 → v &&& 0xCF = 0) (h1 : off = 0x41 → v &&& 0x87 = 0)
    (h2 : off = 0x4D → s.mode = .cgb → v &&& 0xFE = 0) : OuterInv (s.setIoRaw off v) := by
  have hwf := h.1.2.2.2.2.2.2.2.1
  have hr : ∀ b, (s.setIoRaw off v).ioRaw b = if b = off then v else s.ioRaw b := by
    intro b
    show (s.mem.io.write off v).read b = _
    split
    · next hb => rw [hb]; exact Bytes.read_write_same hwf off v
    · next hb => exact Bytes.read_write_other hwf hb v
  refine ⟨wf_setIoRaw h.1 ho v, ⟨h.2.1, h.2.2, h.2.3⟩, ⟨h.3.1, h.3.2, h.3.3, h.3.4⟩, ⟨h.4.1, h.4.2, h.4.3, h.4.4, h.4.5⟩,
    ⟨h.5.1, h.5.2, h.5.3, h.5.4, h.5.5, h.5.6, ?_, h.5.8, h.5.9, h.5.10, h.5.11, h.5.12, h.5.13⟩, ⟨?_, ?_, ?_⟩⟩
  · have : (s.setIoRaw off v).lyMatch = s.lyMatch := by
      unfold State.lyMatch State.lyc
      rw [hr, if_neg (fun h => hl h.symm)]
      rfl
    rw [this]
    exact h.5.7
  · rw [hr]; split
    · next hb => exact h0 hb.symm
    · exact h.6.1
  · rw [hr]; split
    · next hb => exact h1 hb.symm
    · exact h.6.2
  · intro hg; rw [hr]; split
    · next hb => exact h2 hb.symm hg
    · exact h.6.3 hg

/-- The Video unit may change within its part of the invariant, and IF freely. -/
theorem OuterInv.videoOnly {s t : State} (h : OuterInv s) (ho : VideoOnly s t) (hv : t.VideoInv) : OuterInv t := by
  unfold VideoOnly at ho
  have hm : t.mem = s.mem := by rw [ho]
  have hg : t.mode = s.mode := by rw [ho]
  have hb : t.banks = s.banks := by rw [ho]
  have hl : t.bootLoaded = s.bootLoaded := by rw [ho]
  have hd : t.oamDma = s.oamDma := by rw [ho]
  have hh : t.hdma = s.hdma := by rw [ho]
  have hf : t.fault = s.fault := by rw [ho]
  have hr : ∀ b, t.ioRaw b = s.ioRaw b := fun b => by rw [ho]; rfl
  refine ⟨hm ▸ h.1, ⟨hb ▸ h.2.1, ?_, ?_⟩, ⟨hd ▸ h.3.1, hd ▸ h.3.2, hd ▸ h.3.3, ?_⟩, ⟨?_, ?_, ?_, ?_, ?_⟩, hv, ⟨?_, ?_, ?_⟩⟩
  · rw [hg, hb]; exact h.2.2
  · rw [hb, hl]; exact h.2.3
  · rw [hf, hd]; exact h.3.4
  · rw [hg, hh]; exact h.4.1
  · rw [hh]; exact h.4.2
  · rw [hh]; exact h.4.3
  · rw [hh]; exact h.4.4
  · rw [hh]; exact h.4.5
  · rw [hr]; exact h.6.1
  · rw [hr]; exact h.6.2
  · rw [hr, hg]; exact h.6.3

theorem lyMatch_writeLyc (v : Byte) (s : State) : (writeLyc v s).video.coincidence = (writeLyc v s).lyMatch := by
  have : (writeLyc v s).lyMatch = (s.setIoRaw 0x45 v).lyMatch := by
    unfold writeLyc
    rw [compareLyc_eq]
    rfl
  rw [this, writeLyc, compareLyc_video]

/-- A write to LYC. -/
theorem OuterInv.writeLyc {s : State} (h : OuterInv s) (v : Byte) : OuterInv (writeLyc v s) := by
  have hwf := h.1.2.2.2.2.2.2.2.1
  have hr : ∀ b, b ≠ 0x45 → (Machine.writeLyc v s).ioRaw b = s.ioRaw b := by
    intro b hb
    unfold Machine.writeLyc
    rw [compareLyc_eq]
    exact Bytes.read_write_other hwf hb v
  have hv : (Machine.writeLyc v s).video = { s.video with coincidence := (s.setIoRaw 0x45 v).lyMatch } := by
    rw [Machine.writeLyc, compareLyc_video]
    rfl
  have hm : (Machine.writeLyc v s).mem = (s.setIoRaw 0x45 v).mem := by simp [Machine.writeLyc]
  have ho := videoOnly_compareLyc (s.setIoRaw 0x45 v)
  have hk : ∀ {α : Type} (f : State → α), f (s.setIoRaw 0x45 v) = f s → (∀ x y, f { s.setIoRaw 0x45 v with video := x, ints := y } =
      f (s.setIoRaw 0x45 v)) → f (Machine.writeLyc v s) = f s := by
    intro α f h1 h2
    rw [Machine.writeLyc, ho, h2, h1]
  have e1 : (Machine.writeLyc v s).banks = s.banks := hk (·.banks) rfl fun _ _ => rfl
  have e2 : (Machine.writeLyc v s).mode = s.mode := hk (·.mode) rfl fun _ _ => rfl
  have e3 : (Machine.writeLyc v s).bootLoaded = s.bootLoaded := hk (·.bootLoaded) rfl fun _ _ => rfl
  have e4 : (Machine.writeLyc v s).oamDma = s.oamDma := hk (·.oamDma) rfl fun _ _ => rfl
  have e5 : (Machine.writeLyc v s).hdma = s.hdma := hk (·.hdma) rfl fun _ _ => rfl
  have e6 : (Machine.writeLyc v s).fault = s.fault := hk (·.fault) rfl fun _ _ => rfl
  have e7 : (Machine.writeLyc v s).params = s.params := hk (·.params) rfl fun _ _ => rfl
  refine ⟨hm ▸ wf_setIoRaw h.1 (by decide) v, ⟨?_, ?_, ?_⟩, ⟨?_, ?_, ?_, ?_⟩, ⟨?_, ?_, ?_, ?_, ?_⟩,
    ⟨?_, ?_, ?_, ?_, ?_, ?_, lyMatch_writeLyc v s, ?_, ?_, ?_, ?_, ?_, ?_⟩, ⟨?_, ?_, ?_⟩⟩
  · rw [e1]; exact h.2.1
  · rw [e1, e2]; exact h.2.2
  · rw [e1, e3]; exact h.2.3
  · rw [e4]; exact h.3.1
  · rw [e4]; exact h.3.2
  · rw [e4]; exact h.3.3
  · rw [e4, e6]; exact h.3.4
  · rw [e2, e5]; exact h.4.1
  · rw [e5]; exact h.4.2
  · rw [e5]; exact h.4.3
  · rw [e5]; exact h.4.4
  · rw [e5]; exact h.4.5
  · rw [hv]; exact h.5.1
  · rw [hv]; exact h.5.2
  · rw [hv]; exact h.5.3
  · rw [hv]; exact h.5.4
  · rw [hv]; exact h.5.5
  · rw [hv]; exact h.5.6
  · rw [hv]; exact h.5.8
  · rw [hv]; exact h.5.9
  · rw [hv, e7]; exact h.5.10
  · rw [hv, e7]; exact h.5.11
  · rw [hv]; exact h.5.12
  · rw [hv]; exact h.5.13
  · rw [hr _ (by decide)]; exact h.6.1
  · rw [hr _ (by decide)]; exact h.6.2
  · rw [hr _ (by decide), e2]; exact h.6.3

/-- A framebuffer with no line listed is in canonical form. -/
theorem Frame.wf_nil (p : Params) : Frame.wf p [] := by simp [Frame.wf, Cells.wf]

theorem Video.setBack_wf {p : Params} {v : Video} {f : Frame} (hf : Frame.wf p f) (h0 : Frame.wf p v.fb0)
    (h1 : Frame.wf p v.fb1) : Frame.wf p (v.setBack f).fb0 ∧ Frame.wf p (v.setBack f).fb1 := by
  unfold Video.setBack
  split
  · exact ⟨hf, h1⟩
  · exact ⟨h0, hf⟩

/-- The Video unit's part of the invariant as a property of its own state, the parameters and LYC. -/
structure Video.Ok (p : Params) (lyc : Byte) (v : Video) : Prop where
  line : v.line ≤ 153
  lineT : v.lineT ≤ 113
  delay : v.enableDelay ≤ 61
  off : v.lcdc.lcdOn = false → v.line = 0 ∧ v.lineT = 0 ∧ v.mode = .hblank ∧ v.enableDelay = 0
  delayed : 0 < v.enableDelay → v.line = 0 ∧ v.lineT = 0 ∧ v.mode = .hblank
  scanning : v.lcdc.lcdOn = true → v.enableDelay = 0 → v.mode = modeOf v.line v.lineT
  coincidence : v.coincidence = (v.line == lyc.toNat)
  bgPal : Bytes.wf 64 v.bgPal
  objPal : Bytes.wf 64 v.objPal
  fb0 : Frame.wf p v.fb0
  fb1 : Frame.wf p v.fb1
  bcps : v.bcps &&& 0x40 = 0
  ocps : v.ocps &&& 0x40 = 0

theorem State.videoInv_iff (s : State) : s.VideoInv ↔ s.video.Ok s.params s.lyc :=
  ⟨fun h => ⟨h.1, h.2, h.3, h.4, h.5, h.6, h.7, h.8, h.9, h.10, h.11, h.12, h.13⟩,
    fun h => ⟨h.1, h.2, h.3, h.4, h.5, h.6, h.7, h.8, h.9, h.10, h.11, h.12, h.13⟩⟩

/-- A write to LCDC, on the Video unit's own state (R459, R462, R463). -/
theorem writeLcdc_video (b : Byte) (s : State) : (writeLcdc b s).video =
    if s.video.lcdc.lcdOn = true ∧ b.getLsbD 7 = false then
      { s.video.setBack [] with
        lcdc := Lcdc.ofByte b, lineT := 0, line := 0, coincidence := 0 == s.lyc.toNat, mode := .hblank, enableDelay := 0 }
    else if s.video.lcdc.lcdOn = false ∧ b.getLsbD 7 = true then
      { s.video with lcdc := Lcdc.ofByte b, enableDelay := 61 }
    else { s.video with lcdc := Lcdc.ofByte b } := by
  unfold writeLcdc
  have e : (Lcdc.ofByte b).lcdOn = b.getLsbD 7 := rfl
  simp only [State.setVideo_video, e]
  cases h1 : s.video.lcdc.lcdOn <;> cases h2 : b.getLsbD 7 <;> simp [lcdEnable, lcdDisable]
  cases hf : s.video.frontSel <;> simp [Video.setBack, hf]

/-- A write to LCDC keeps the Video unit's part. -/
theorem videoInv_writeLcdc {s : State} (h : s.VideoInv) (b : Byte) : (writeLcdc b s).VideoInv := by
  rw [State.videoInv_iff] at *
  have ho := videoOnly_writeLcdc b s
  have e1 : (writeLcdc b s).params = s.params := by rw [ho]
  have e2 : (writeLcdc b s).lyc = s.lyc := by rw [ho]; rfl
  have e : (Lcdc.ofByte b).lcdOn = b.getLsbD 7 := rfl
  rw [e1, e2, writeLcdc_video]
  obtain ⟨h1, h2, h3, h4, h5, h6, h7, h8, h9, h10, h11, h12, h13⟩ := h
  have hb := Video.setBack_wf (v := s.video) (Frame.wf_nil s.params) h10 h11
  split
  · next hc =>
    exact ⟨by simp, by simp, by simp, by simp, by simp, fun hx => absurd (hx.symm.trans (e.trans hc.2)) (by simp), by simp, by simpa using h8, by simpa using h9, hb.1,
      hb.2, by simpa using h12, by simpa using h13⟩
  · next hn =>
    split
    · next hc =>
      have h0 := h4 hc.1
      exact ⟨h1, h2, by simp, fun hx => absurd (hx.symm.trans (e.trans hc.2)) (by simp), fun _ => ⟨h0.1, h0.2.1, h0.2.2.1⟩, by simp, h7, h8, h9, h10, h11, h12, h13⟩
    · next hn' =>
      have hs : b.getLsbD 7 = s.video.lcdc.lcdOn := by
        cases h1 : s.video.lcdc.lcdOn <;> cases h2 : b.getLsbD 7 <;> simp_all
      exact ⟨h1, h2, h3, fun hx => h4 (by rw [← hs, ← e]; exact hx), h5, fun hx => h6 (by rw [← hs, ← e]; exact hx), h7, h8, h9, h10, h11, h12, h13⟩

theorem and_and_eq_zero (v m n : Byte) (h : m &&& n = 0) : v &&& m &&& n = 0 := by
  rw [BitVec.and_assoc, h]
  exact BitVec.and_zero

theorem palStep_and (r : Byte) (h : r &&& 0x40 = 0) : palStep r &&& 0x40 = 0 := by
  unfold palStep
  split
  · have e : ∀ x y z : Byte, (x ||| y) &&& z = (x &&& z) ||| (y &&& z) := fun x y z => by
      ext i hi; simp [Bool.and_or_distrib_right]
    rw [e, BitVec.and_assoc, BitVec.and_assoc]
    have e1 : (0xC0 : Byte) &&& 0x40 = 0x40 := rfl
    have e2 : (0x3F : Byte) &&& 0x40 = 0 := rfl
    rw [e1, e2, h]
    simp
  · exact h

theorem palIndex_lt (r : Byte) : palIndex r < 64 := (r.extractLsb' 0 6).isLt

theorem hdmaLength_bounds (v : Byte) : 16 ∣ hdmaLength v ∧ 16 ≤ hdmaLength v ∧ hdmaLength v ≤ 2048 := by
  have h : (v &&& 0x7F).toNat ≤ 127 := by
    rw [BitVec.toNat_and]
    exact Nat.and_le_right
  unfold hdmaLength
  omega

/-- A write to 0xFF55 in colour mode. -/
theorem OuterInv.writeHdma {s : State} (hs : OuterInv s) (hg : s.mode = .cgb) (v : Byte) :
    OuterInv (writeHdma v s).state := by
  have hset : ∀ x : HdmaTransfer, (x.active = true → hdmaValid x.src x.dst x.len = true) →
      (x.active = true → x.src &&& 0x000F = 0 ∧ x.dst &&& 0x000F = 0) →
      (x.active = true → 16 ∣ x.len ∧ 16 ≤ x.len ∧ x.len ≤ 2048) → (x.active = true → x.copied < x.len) →
      OuterInv (s.setHdma x) := fun x h1 h2 h3 h4 =>
    ⟨hs.1, ⟨hs.2.1, hs.2.2, hs.2.3⟩, ⟨hs.3.1, hs.3.2, hs.3.3, hs.3.4⟩,
      ⟨fun hd => absurd (hg.symm.trans hd) (by decide), h1, h2, h3, h4⟩,
      ⟨hs.5.1, hs.5.2, hs.5.3, hs.5.4, hs.5.5, hs.5.6, hs.5.7, hs.5.8, hs.5.9, hs.5.10, hs.5.11, hs.5.12, hs.5.13⟩,
      ⟨hs.6.1, hs.6.2, hs.6.3⟩⟩
  have ha : ∀ w : Word, w &&& 0xFFF0 &&& 0x000F = 0 := fun w => by rw [BitVec.and_assoc]; exact BitVec.and_zero
  unfold Machine.writeHdma
  simp only
  split
  · exact hset _ hs.4.2 hs.4.3 hs.4.4 hs.4.5
  · split
    · next hv =>
      have hl := hdmaLength_bounds v
      refine hset _ (fun _ => hv) (fun _ => ⟨ha _, ha _⟩) (fun _ => hl) (fun _ => ?_)
      show 0 < hdmaLength v
      omega
    · exact hs.setFault _

/-- Every effect of a write to an I/O offset keeps the invariant outside the CPU. -/
theorem IoEffect.inv {v : Byte} {s : State} {off : Nat} {r : Res Unit} (h : IoEffect v s off r) (ho : off < 128)
    (hs : OuterInv s) : OuterInv r.state := by
  have hv := (State.videoInv_iff s).mp hs.video
  have setV : ∀ x : Video, x.Ok s.params s.lyc → OuterInv (s.setVideo x) := fun x hx =>
    hs.videoOnly (videoOnly_setVideo s x) ((State.videoInv_iff _).mpr hx)
  cases h with
  | audio | ly => exact hs
  | joyp => exact hs.setIoRaw ho _ (by decide) (fun _ => and_and_eq_zero _ _ _ rfl) (by simp) (by simp)
  | stat => exact hs.setIoRaw ho _ (by decide) (by simp) (fun _ => and_and_eq_zero _ _ _ rfl) (by simp)
  | key1 => exact hs.setIoRaw ho _ (by decide) (by simp) (by simp) (fun _ _ => and_and_eq_zero _ _ _ rfl)
  | div | tima | tma | tac => exact hs.setTimer _
  | intFlag => exact hs.setIF _
  | lcdc => exact hs.videoOnly (videoOnly_writeLcdc v s) (videoInv_writeLcdc hs.video v)
  | lyc => exact hs.writeLyc v
  | dma =>
    have h := hs.setIoRaw ho v (by decide) (by simp) (by simp) (by simp)
    refine ⟨h.1, ⟨h.2.1, h.2.2, h.2.3⟩, ⟨?_, by simp [writeDma], by simp [writeDma], by simp [writeDma]⟩,
      ⟨h.4.1, h.4.2, h.4.3, h.4.4, h.4.5⟩,
      ⟨h.5.1, h.5.2, h.5.3, h.5.4, h.5.5, h.5.6, h.5.7, h.5.8, h.5.9, h.5.10, h.5.11, h.5.12, h.5.13⟩, ⟨h.6.1, h.6.2, h.6.3⟩⟩
    show lo8 (word16 v 0) = 0
    exact lo8_word16 v 0
  | vbk hg =>
    refine ⟨hs.1, ⟨hs.2.1, fun hd => absurd (hg.symm.trans hd) (by decide), hs.2.3⟩, ⟨hs.3.1, hs.3.2, hs.3.3, hs.3.4⟩,
      ⟨hs.4.1, hs.4.2, hs.4.3, hs.4.4, hs.4.5⟩,
      ⟨hs.5.1, hs.5.2, hs.5.3, hs.5.4, hs.5.5, hs.5.6, hs.5.7, hs.5.8, hs.5.9, hs.5.10, hs.5.11, hs.5.12, hs.5.13⟩,
      ⟨hs.6.1, hs.6.2, hs.6.3⟩⟩
  | boot =>
    have h := hs.setIoRaw ho v (by decide) (by simp) (by simp) (by simp)
    exact ⟨h.1, ⟨h.2.1, h.2.2, fun hb => absurd hb (by simp)⟩, ⟨h.3.1, h.3.2, h.3.3, h.3.4⟩,
      ⟨h.4.1, h.4.2, h.4.3, h.4.4, h.4.5⟩,
      ⟨h.5.1, h.5.2, h.5.3, h.5.4, h.5.5, h.5.6, h.5.7, h.5.8, h.5.9, h.5.10, h.5.11, h.5.12, h.5.13⟩, ⟨h.6.1, h.6.2, h.6.3⟩⟩
  | svbk hg =>
    have h := hs.setIoRaw ho v (by decide) (by simp) (by simp) (by simp)
    refine ⟨h.1, ⟨?_, fun hd => absurd (hg.symm.trans hd) (by decide), h.2.3⟩, ⟨h.3.1, h.3.2, h.3.3, h.3.4⟩,
      ⟨h.4.1, h.4.2, h.4.3, h.4.4, h.4.5⟩,
      ⟨h.5.1, h.5.2, h.5.3, h.5.4, h.5.5, h.5.6, h.5.7, h.5.8, h.5.9, h.5.10, h.5.11, h.5.12, h.5.13⟩, ⟨h.6.1, h.6.2, h.6.3⟩⟩
    show svbkBank v ≠ 0
    unfold svbkBank
    simp only
    split
    · decide
    · assumption
  | hdma hg => exact hs.writeHdma hg v
  | bcps => exact setV _ ⟨hv.1, hv.2, hv.3, hv.4, hv.5, hv.6, hv.7, hv.8, hv.9, hv.10, hv.11, and_and_eq_zero _ _ _ rfl, hv.13⟩
  | bcpd =>
    exact setV _ ⟨hv.1, hv.2, hv.3, hv.4, hv.5, hv.6, hv.7, Bytes.wf_write hv.8 (palIndex_lt _) v, hv.9, hv.10, hv.11,
      palStep_and _ hv.12, hv.13⟩
  | ocps => exact setV _ ⟨hv.1, hv.2, hv.3, hv.4, hv.5, hv.6, hv.7, hv.8, hv.9, hv.10, hv.11, hv.12, and_and_eq_zero _ _ _ rfl⟩
  | ocpd =>
    exact setV _ ⟨hv.1, hv.2, hv.3, hv.4, hv.5, hv.6, hv.7, hv.8, Bytes.wf_write hv.9 (palIndex_lt _) v, hv.10, hv.11, hv.12,
      palStep_and _ hv.13⟩
  | plain _ ha h hm =>
    refine hs.setIoRaw ho v ?_ ?_ ?_ ?_
    · rintro rfl; simp at h
    · rintro rfl; simp at h
    · rintro rfl; simp at h
    · rintro rfl hg; rw [hm (by simp)] at hg; contradiction

/-- A write on the Bus keeps the invariant outside the CPU, whether it ends well or not. -/
theorem OuterInv.busWrite {s : State} (hs : OuterInv s) (a : Nat) (v : Byte) : OuterInv (busWrite a v s).state := by
  have h := busWrite_effect a v s
  have hwf := busWrite_wf a v hs.1
  generalize Machine.busWrite a v s = r at h hwf
  cases h with
  | fatal e => exact hs.setFault e
  | io off r _ hb he => exact he.inv hb hs
  | vram | cartRam | wram | oam | hram => exact hs.setMem hwf rfl
  | ie => exact hs.setIE _
  | hook => exact hs.setCart _
  | gap | consumed | noRam => exact hs

/-- A read does. -/
theorem OuterInv.busRead {s : State} (hs : OuterInv s) (a : Nat) : OuterInv (busRead a s).state := by
  obtain ⟨v, h⟩ | ⟨v, h⟩ | ⟨e, h⟩ := busRead_cases a s <;> rw [h]
  · exact hs
  · exact hs.drawFree
  · exact hs.setFault e

/-- So does every instruction. -/
theorem Reach.inv {P : Cpu → Cpu → Prop} {s t : State} (h : Reach P s t) (hs : OuterInv s) : OuterInv t :=
  h.induct (fun _ c _ h => h.withCpu c) (fun _ a h => h.busRead a) (fun _ a v h => h.busWrite a v) (fun _ e h => h.setFault e) hs

end Sys2Proof.Machine
end

