-- ==== Sys2Proof/Laws/Agents.lean ====
section
/-! SUPPORT. The other agents keep the invariant outside the CPU, and the CPU. -/

namespace Sys2Proof.Machine

/-! ### The Video unit -/

theorem modeOf_of_lt {l t : Nat} (h : l < 144) : modeOf l t = if t < 20 then .oamSearch else if t < 63 then .pixelTransfer else .hblank := by
  unfold modeOf
  rw [if_neg (by omega)]

/-- A line of pixels has the screen's width. -/
theorem composeLine_length (s : State) (l : Nat) : (composeLine s l).length = s.params.screenW := by simp [composeLine]

theorem Frame.wf_setRow {p : Params} {f : Frame} (hf : Frame.wf p f) {y : Nat} {row : List Rgb}
    (hr : row.length = p.screenW) : Frame.wf p (f.setRow p y row) := by
  unfold Frame.setRow
  split
  case isFalse => exact hf
  next hy =>
  refine ⟨Cells.wf_write hf.1 hy row, fun r h => ?_⟩
  obtain h | ⟨h, _⟩ := Cells.mem_write h
  · exact hf.2 r h
  · rw [h]
    exact hr

/-- A scanning cycle keeps the Video unit's part. -/
theorem Video.Ok.scanStep {s : State} (h : s.video.Ok s.params s.lyc) (hon : s.video.lcdc.lcdOn = true)
    (hd : s.video.enableDelay = 0) : (scanStep s).video.Ok s.params s.lyc := by
  have hm := h.scanning hon hd
  have hno : ¬s.video.lcdc.lcdOn = false := by simp [hon]
  obtain ⟨h1, h2, h3, h4, h5, h6, h7, h8, h9, h10, h11, h12, h13⟩ := id h
  rw [scanStep_video]
  split
  · split
    · exact ⟨by simp, by simp, h3, fun x => absurd x hno, by simp [hd], by intros; rfl, rfl, h8, h9, h10, h11, h12, h13⟩
    · next hl =>
      refine ⟨by show s.video.line + 1 ≤ 153; omega, by simp, h3, fun x => absurd x hno, by simp [hd], fun _ _ => ?_, rfl, h8, h9,
        h10, h11, h12, h13⟩
      show (if s.video.line + 1 = 144 then VideoMode.vblank else if s.video.line + 1 < 144 then .oamSearch else s.video.mode) =
        modeOf (s.video.line + 1) 0
      unfold modeOf
      repeat' split
      all_goals first | rfl | omega | skip
      rw [hm]
      unfold modeOf
      rw [if_pos (by omega)]
  · split
    · next hn hc =>
      refine ⟨h1, by show s.video.lineT + 1 ≤ 113; omega, h3, fun x => absurd x hno, by simp [hd], fun _ _ => ?_, h7, h8, h9, h10,
        h11, h12, h13⟩
      show VideoMode.pixelTransfer = modeOf s.video.line (s.video.lineT + 1)
      rw [modeOf_of_lt hc.1, if_neg (by omega), if_pos (by omega)]
    · split
      · next hn hn' hc =>
        have h' : (s.setVideo { s.video with lineT := s.video.lineT + 1 }).video.Ok s.params s.lyc → True := fun _ => trivial
        have hr : Frame.wf s.params s.video.back := by
          unfold Video.back
          split
          · exact h10
          · exact h11
        have hb := Video.setBack_wf (v := { s.video with lineT := s.video.lineT + 1 })
          (Frame.wf_setRow hr (y := s.video.line)
            (composeLine_length (s.setVideo { s.video with lineT := s.video.lineT + 1 }) s.video.line)) h10 h11
        rw [renderLine_video]
        constructor
        case fb0 => exact hb.1
        case fb1 => exact hb.2
        all_goals simp only [Video.setBack_line, Video.setBack_lineT, Video.setBack_enableDelay, Video.setBack_lcdc,
          Video.setBack_coincidence, Video.setBack_bgPal, Video.setBack_objPal, Video.setBack_bcps,
          Video.setBack_ocps, State.setVideo_video]
        · exact h1
        · omega
        · exact h3
        · exact fun x => absurd x hno
        · simp [hd]
        · intro _ _
          rw [modeOf_of_lt hc.1, if_neg (by omega), if_neg (by omega)]
        · exact h7
        · exact h8
        · exact h9
        · exact h12
        · exact h13
      · next hn hn' hn2 =>
        refine ⟨h1, by show s.video.lineT + 1 ≤ 113; omega, h3, fun x => absurd x hno, by simp [hd], fun _ _ => ?_, h7, h8, h9, h10,
          h11, h12, h13⟩
        show s.video.mode = modeOf s.video.line (s.video.lineT + 1)
        rw [hm]
        unfold modeOf
        repeat' split
        all_goals first | rfl | omega

/-- The Video step keeps the Video unit's part. -/
theorem videoInv_videoStep {s : State} (h : s.VideoInv) : (videoStep s).VideoInv := by
  have ho := videoOnly_videoStep s
  have e1 : (videoStep s).params = s.params := by rw [ho]
  have e2 : (videoStep s).lyc = s.lyc := by rw [ho]; rfl
  rw [State.videoInv_iff] at *
  rw [e1, e2]
  unfold videoStep
  split
  · next hon =>
    split
    · next hd =>
      obtain ⟨h1, h2, h3, h4, h5, h6, h7, h8, h9, h10, h11, h12, h13⟩ := id h
      have hno : ¬s.video.lcdc.lcdOn = false := by simp [hon]
      rw [delayStep_video]
      split
      · next hz =>
        exact ⟨by simp, by simp, by simp [hz], fun x => absurd x hno, by simp [hz], by intros; rfl, rfl, h8, h9, h10, h11, h12, h13⟩
      · next hz =>
        exact ⟨h1, h2, by show s.video.enableDelay - 1 ≤ 61; omega, fun x => absurd x hno, fun _ => h5 hd, fun _ x => absurd x hz,
          h7, h8, h9, h10, h11, h12, h13⟩
    · next hd => exact h.scanStep hon (by omega)
  · exact h

theorem OuterInv.videoStep {s : State} (h : OuterInv s) : OuterInv (videoStep s) :=
  h.videoOnly (videoOnly_videoStep s) (videoInv_videoStep h.video)

/-! ### The Timer and the host -/

theorem OuterInv.timerStep {s : State} (h : OuterInv s) : OuterInv (timerStep s) := by
  unfold Machine.timerStep
  simp only
  repeat' split
  · exact (h.setTimer _).setIF _
  · exact h.setTimer _
  · exact h.setTimer _

theorem OuterInv.setButtons {s : State} (h : OuterInv s) (b : BitVec 8) : OuterInv (s.setButtons b) :=
  ⟨h.1, ⟨h.2.1, h.2.2, h.2.3⟩, ⟨h.3.1, h.3.2, h.3.3, h.3.4⟩, ⟨h.4.1, h.4.2, h.4.3, h.4.4, h.4.5⟩,
    ⟨h.5.1, h.5.2, h.5.3, h.5.4, h.5.5, h.5.6, h.5.7, h.5.8, h.5.9, h.5.10, h.5.11, h.5.12, h.5.13⟩, ⟨h.6.1, h.6.2, h.6.3⟩⟩

theorem OuterInv.setHost {s : State} (h : OuterInv s) (l : List (List HostMove)) : OuterInv (s.setHost l) :=
  ⟨h.1, ⟨h.2.1, h.2.2, h.2.3⟩, ⟨h.3.1, h.3.2, h.3.3, h.3.4⟩, ⟨h.4.1, h.4.2, h.4.3, h.4.4, h.4.5⟩,
    ⟨h.5.1, h.5.2, h.5.3, h.5.4, h.5.5, h.5.6, h.5.7, h.5.8, h.5.9, h.5.10, h.5.11, h.5.12, h.5.13⟩, ⟨h.6.1, h.6.2, h.6.3⟩⟩

theorem OuterInv.hostMove {s : State} (h : OuterInv s) (m : HostMove) : OuterInv (hostMove m s).state := by
  cases m with
  | press k =>
    show OuterInv (hostPress k s)
    unfold hostPress
    split
    · exact h
    · exact (h.setButtons _).setIF _
  | release k => exact h.setButtons _
  | poke a v =>
    show OuterInv (hostWrite a v s).state
    unfold hostWrite
    split
    · exact h.setFault _
    · exact h.busWrite _ _

/-- The host's turn touches no CPU state and keeps the invariant. -/
theorem hostMove_cpu (m : HostMove) (s : State) : (hostMove m s).state.cpu = s.cpu := by
  cases m with
  | press k =>
    show (hostPress k s).cpu = s.cpu
    unfold hostPress
    split <;> rfl
  | release k => rfl
  | poke a v =>
    show (hostWrite a v s).state.cpu = s.cpu
    unfold hostWrite
    split
    · rfl
    · exact (busWrite_kept _ _ _).cpu

theorem hostMoves_keep (l : List HostMove) (s : State) (h : OuterInv s) :
    OuterInv (hostMoves l s).state ∧ (hostMoves l s).state.cpu = s.cpu := by
  induction l generalizing s with
  | nil => exact ⟨h, rfl⟩
  | cons m l ih =>
    have h1 := h.hostMove m
    have h2 := hostMove_cpu m s
    unfold hostMoves
    cases hr : Machine.hostMove m s with
    | ok _ t =>
      rw [hr] at h1 h2
      exact ⟨(ih t h1).1, (ih t h1).2.trans h2⟩
    | fatal t =>
      rw [hr] at h1 h2
      exact ⟨h1, h2⟩

/-- How one move of the host ends: the schedule as it was, and the fault field too unless the move raises one. -/
theorem hostMove_ends (m : HostMove) (s : State) : WriteEnds s (hostMove m s) ∧ (hostMove m s).state.host = s.host := by
  cases m with
  | press k =>
    show WriteEnds s (.ok () (hostPress k s)) ∧ (hostPress k s).host = s.host
    unfold hostPress
    split <;> exact ⟨⟨rfl, rfl⟩, rfl⟩
  | release k => exact ⟨⟨rfl, rfl⟩, rfl⟩
  | poke a v =>
    show WriteEnds s (hostWrite a v s) ∧ (hostWrite a v s).state.host = s.host
    unfold hostWrite
    split
    · exact ⟨⟨_, rfl⟩, rfl⟩
    · exact ⟨busWrite_ends _ _ _, (busWrite_kept _ _ _).host⟩

/-- So do several: the schedule as it was, the fault field as it was or set by the move that ends them. -/
theorem hostMoves_ends (l : List HostMove) (s : State) :
    (hostMoves l s).state.host = s.host ∧
    match hostMoves l s with
    | .ok _ t => t.fault = s.fault
    | .fatal t => t.fault ≠ none := by
  induction l generalizing s with
  | nil => exact ⟨rfl, rfl⟩
  | cons m l ih =>
    obtain ⟨h1, h2⟩ := hostMove_ends m s
    unfold hostMoves
    cases hr : Machine.hostMove m s with
    | ok _ t =>
      rw [hr] at h1 h2
      have h3 := ih t
      refine ⟨h3.1.trans h2, ?_⟩
      show match hostMoves l t with
        | .ok _ u => u.fault = s.fault
        | .fatal u => u.fault ≠ none
      rw [← h1.1]
      exact h3.2
    | fatal t =>
      rw [hr] at h1 h2
      obtain ⟨e, rfl⟩ := h1
      exact ⟨h2, by simp [Res.bind]⟩

/-! ### The Transfer Engine -/

theorem OuterInv.setOamDma {s : State} (h : OuterInv s) {x : OamTransfer} (h1 : lo8 x.src = 0) (h2 : x.ticks ≤ 161)
    (h3 : x.copied ≤ 160) (h4 : s.fault = none → x.active = true → x.ticks ≤ 160 ∧ x.copied = x.ticks - 1) :
    OuterInv (s.setOamDma x) :=
  ⟨h.1, ⟨h.2.1, h.2.2, h.2.3⟩, ⟨h1, h2, h3, h4⟩, ⟨h.4.1, h.4.2, h.4.3, h.4.4, h.4.5⟩,
    ⟨h.5.1, h.5.2, h.5.3, h.5.4, h.5.5, h.5.6, h.5.7, h.5.8, h.5.9, h.5.10, h.5.11, h.5.12, h.5.13⟩, ⟨h.6.1, h.6.2, h.6.3⟩⟩

/-- An address of OAM, below the end of the transfer: the write goes to its cell and nowhere else. -/
theorem busWrite_oam (s : State) {n : Nat} (hn : n < 160) (v : Byte) :
    busWrite (0xFE00 + n) v s = .ok () (s.setMem { s.mem with oam := s.mem.oam.write n v }) := by
  unfold busWrite
  rw [locate_oam (by omega) (by omega), Nat.add_sub_cancel_left]

/-- A write to VRAM goes to its cell and nowhere else. -/
theorem busWrite_vram (s : State) {a : Nat} (h : 0x8000 ≤ a) (h' : a ≤ 0x9FFF) (v : Byte) :
    busWrite a v s = .ok () (s.setMem { s.mem with
      vram := s.mem.vram.write (s.banks.vramBank.toNat * 0x2000 + (a - 0x8000)) v }) := by
  unfold busWrite
  rw [locate_vram h h']

/-- A read changes no more than the count of free values and the fault. -/
theorem busRead_only (a : Nat) (s : State) :
    (busRead a s).state = { s with freeDraws := (busRead a s).state.freeDraws, fault := (busRead a s).state.fault } := by
  obtain ⟨v, h⟩ | ⟨v, h⟩ | ⟨e, h⟩ := busRead_cases a s <;> rw [h] <;> rfl

theorem busRead_fatal_fault {a : Nat} {s t : State} (h : busRead a s = .fatal t) : t.fault ≠ none := by
  obtain ⟨e, rfl⟩ := busRead_fatal h
  simp

end Sys2Proof.Machine
end

