-- ==== Sys2Proof/Laws/Decode.lean ====
section
/-! SUPPORT. What the decoder answers, by the length its first byte asks for. -/

namespace Sys2Proof

/-- A one-byte instruction, whatever follows it. -/
theorem decode_one {op : Byte} (h : opLength op = 1) (hp : op ≠ prefixByte) (rest : List Byte) :
    decode (op :: rest) = .ok (decodePrimary op 0 0, rest) := by
  cases rest <;> simp [decode, h, hp]

/-- A two-byte instruction of the primary table. -/
theorem decode_two {op : Byte} (h : opLength op = 2) (hp : op ≠ prefixByte) (b : Byte) (rest : List Byte) :
    decode (op :: b :: rest) = .ok (decodePrimary op b 0, rest) := by
  simp [decode, h, hp]

/-- A three-byte instruction. -/
theorem decode_three {op : Byte} (h : opLength op = 3) (hp : op ≠ prefixByte) (b b' : Byte) (rest : List Byte) :
    decode (op :: b :: b' :: rest) = .ok (decodePrimary op b b', rest) := by
  simp [decode, h, hp]

/-- An instruction of the alternate table. -/
theorem decode_prefixed (op2 : Byte) (rest : List Byte) : decode (prefixByte :: op2 :: rest) = .ok (decodePrefixed op2, rest) := by
  simp [decode]

/-- Too few bytes for the length the first byte asks for. -/
theorem decode_short {op : Byte} {rest : List Byte} (h : rest.length + 1 < opLength op) (hp : op ≠ prefixByte)
    (hl : opLength op ≤ 3) : decode (op :: rest) = .error (.missingOperand op) := by
  match rest with
  | [] =>
    have h1 : opLength op ≠ 1 := by simp at h; omega
    simp [decode, hp, h1]
  | [b] =>
    have h1 : opLength op = 3 := by simp at h; omega
    simp [decode, hp, h1]
  | _ :: _ :: _ => simp at h; omega

/-- Every entry of the grid of lengths is 1, 2 or 3. -/
theorem lengthGrid_bounds : ∀ row ∈ lengthGrid, ∀ n ∈ row, 1 ≤ n ∧ n ≤ 3 := by decide

/-- Every length is 1, 2 or 3 (`spec/30_encoding.md` R142, R161). -/
theorem opLength_bounds (op : Byte) : 1 ≤ opLength op ∧ opLength op ≤ 3 := by
  have hr : (lengthGrid.getD (op.toNat / 16) []) ∈ lengthGrid := by
    have h : op.toNat / 16 < lengthGrid.length := by
      have := op.isLt
      show _ < 16
      omega
    rw [List.getD_eq_getElem _ _ h]
    exact List.getElem_mem h
  unfold opLength
  by_cases h : op.toNat % 16 < (lengthGrid.getD (op.toNat / 16) []).length
  · rw [List.getD_eq_getElem _ _ h]
    exact lengthGrid_bounds _ hr _ (List.getElem_mem h)
  · rw [List.getD_eq_default _ _ (by omega)]
    omega

end Sys2Proof
end

