-- ==== Sys2Proof/Tests/Slice0.lean ====
section
/-! SUPPORT. Tests of the model's own, each one step or one operation on a small state. The expected results are those of
`spec/95_test_vectors.md` (its parts 1 and 2; the row is named before the test where it is not plain from it) or are worked by
hand from the rule cited. Then, for every statement with hypotheses, states and operands that meet them. -/

namespace Sys2Proof.Tests

open Sys2Proof.Machine

/-! ### Small states -/

/-- Bytes laid from offset `a` on. -/
def placeAt : Nat → List Byte → Bytes → Bytes
  | _, [], m => m
  | a, b :: l, m => placeAt (a + 1) l (m.write a b)

/-- The start of the single-instruction vectors: `bytes` at 0x0150, PC there, SP = 0xFFFE, RUNNING, all else 0. -/
def start (bytes : List Byte) : State :=
  let s := State.reset
  let s := s.setMem { s.mem with cartRom0 := placeAt 0x0150 bytes [] }
  ((s.setRunState .running).setPc 0x0150).setSp 0xFFFE

/-- The same in colour mode. -/
def startCgb (bytes : List Byte) : State := { start bytes with mode := .cgb }

/-- Memory through the Bus. -/
def put (a : Nat) (v : Byte) (s : State) : State := (busWrite a v s).state

/-- The state of an outcome. -/
def after : Out → State
  | .next t => t
  | .fault _ => State.reset
  | .refused _ => State.reset

/-- One `FetchExecute` from the start state changed by `f`; PC and cost as given, and what else `check` says. -/
def runs (bytes : List Byte) (f : State → State) (pc : Word) (cost : Nat) (check : State → Bool) : Bool :=
  let t := after (fetchExecute (f (start bytes)))
  decide (t.cpu.pc = pc) && decide (t.cpu.pendingCycles + 1 = cost) && decide (t.fault = none) && check t

/-- One `FetchExecute` that raises `e`, PC as given. -/
def faults (bytes : List Byte) (f : State → State) (pc : Word) (e : Fault) (check : State → Bool) : Bool :=
  let t := after (fetchExecute (f (start bytes)))
  decide (t.cpu.pc = pc) && decide (t.fault = some e) && check t

/-- A is `a` and F is `f`. -/
def af (a f : Byte) (t : State) : Bool := decide (t.cpu.a = a) && decide (t.cpu.f = f)

/-- The byte at `a` reads as `v`. -/
def reads (a : Nat) (v : Byte) (t : State) : Bool := decide (t.peek a = some v)

/-! ### Single-instruction vectors (parts 2.1 to 2.7) -/

/-- R200. -/
theorem test_LD_A_B :
    runs [0x78] (fun s => s.setB 0x12) 0x0151 1 (fun t => decide (t.cpu.a = 0x12)) = true := by
  decide

/-- R200. -/
theorem test_LD_B_B :
    runs [0x40] (fun s => s.setB 0x12) 0x0151 1 (fun t => decide (t.cpu.b = 0x12)) = true := by
  decide

/-- R201: the address is taken before H is written. -/
theorem test_LD_H_mHL :
    runs [0x66] (fun s => (put 0xC000 0xD0 s).setHl 0xC000) 0x0151 2 (fun t => decide (t.hl = 0xD000)) = true := by
  decide

/-- R202. -/
theorem test_LD_mHL_A :
    runs [0x77] (fun s => (s.setHl 0xC123).setA 0x99) 0x0151 2 (reads 0xC123 0x99) = true := by
  decide

/-- R203. -/
theorem test_LD_B_d8 :
    runs [0x06, 0xFF] id 0x0152 2 (fun t => decide (t.cpu.b = 0xFF)) = true := by
  decide

/-- R204. -/
theorem test_LD_mHL_d8 :
    runs [0x36, 0x07] (fun s => s.setHl 0x9800) 0x0152 3 (reads 0x9800 0x07) = true := by
  decide

/-- R205. -/
theorem test_LD_A_mBC :
    runs [0x0A] (fun s => (put 0xC010 0x33 s).setBc 0xC010) 0x0151 2 (fun t => decide (t.cpu.a = 0x33)) = true := by
  decide

/-- R206. -/
theorem test_LD_A_mDE :
    runs [0x1A] (fun s => (put 0xC010 0x34 s).setDe 0xC010) 0x0151 2 (fun t => decide (t.cpu.a = 0x34)) = true := by
  decide

/-- R207. -/
theorem test_LD_mBC_A :
    runs [0x02] (fun s => (s.setBc 0xC010).setA 0x7F) 0x0151 2 (reads 0xC010 0x7F) = true := by
  decide

/-- R208. -/
theorem test_LD_mDE_A :
    runs [0x12] (fun s => (s.setDe 0xC020).setA 0x44) 0x0151 2 (reads 0xC020 0x44) = true := by
  decide

/-- R209. -/
theorem test_LD_A_ma16 :
    runs [0xFA, 0x34, 0xC2] (fun s => put 0xC234 0x11 s) 0x0153 4 (fun t => decide (t.cpu.a = 0x11)) = true := by
  decide

/-- R210. -/
theorem test_LD_ma16_A :
    runs [0xEA, 0x00, 0xC0] (fun s => s.setA 0x01) 0x0153 4 (reads 0xC000 0x01) = true := by
  decide

/-- R210, R78. -/
theorem test_LD_ma16_A_rom :
    faults [0xEA, 0x00, 0x20] (fun s => s.setA 0x01) 0x0153 (.notWritable 0x2000) (fun _ => true) = true := by
  decide

/-- R211, R106. -/
theorem test_LDH_A_IF :
    runs [0xF0, 0x0F] id 0x0152 3 (fun t => decide (t.cpu.a = 0xE0)) = true := by
  decide

/-- R212, R421. -/
theorem test_LDH_DMA_A :
    runs [0xE0, 0x46] (fun s => s.setA 0xC1) 0x0152 3 (fun t => t.oamDma.active && decide (t.oamDma.src = 0xC100) && reads 0xFF46 0xC1 t) = true := by
  decide

/-- R213. -/
theorem test_LD_A_mC :
    runs [0xF2] (fun s => s.setC 0x0F) 0x0151 2 (fun t => decide (t.cpu.a = 0xE0)) = true := by
  decide

/-- R214, R105. -/
theorem test_LD_mC_A :
    runs [0xE2] (fun s => (s.setC 0x07).setA 0x05) 0x0151 2 (fun t => t.timer.running && decide (t.timer.rate = 1)) = true := by
  decide

/-- R215: HL wraps. -/
theorem test_LD_mHLi_A :
    runs [0x22] (fun s => (s.setHl 0xFFFF).setA 0x15) 0x0151 2 (fun t => decide (t.ints.enabled = 0x15) && decide (t.hl = 0)) = true := by
  decide

/-- R216. -/
theorem test_LD_mHLd_A :
    runs [0x32] (fun s => s.setHl 0x9FFF) 0x0151 2 (fun t => decide (t.hl = 0x9FFE)) = true := by
  decide

/-- R216: HL is not stepped. -/
theorem test_LD_mHLd_A_rom :
    faults [0x32] (fun s => s.setHl 0x0000) 0x0151 (.notWritable 0x0000) (fun t => decide (t.hl = 0)) = true := by
  decide

/-- R217. -/
theorem test_LD_A_mHLi :
    runs [0x2A] (fun s => (put 0xC001 0x42 s).setHl 0xC001) 0x0151 2 (fun t => decide (t.cpu.a = 0x42) && decide (t.hl = 0xC002)) = true := by
  decide

/-- R218. -/
theorem test_LD_A_mHLd :
    runs [0x3A] (fun s => (put 0xC001 0x42 s).setHl 0xC001) 0x0151 2 (fun t => decide (t.cpu.a = 0x42) && decide (t.hl = 0xC000)) = true := by
  decide

/-- R230. -/
theorem test_LD_HL_d16 :
    runs [0x21, 0x00, 0xC0] id 0x0153 3 (fun t => decide (t.hl = 0xC000)) = true := by
  decide

/-- R230. -/
theorem test_LD_SP_d16 :
    runs [0x31, 0xFE, 0xFF] (fun s => s.setSp 0) 0x0153 3 (fun t => decide (t.cpu.sp = 0xFFFE)) = true := by
  decide

/-- R231. -/
theorem test_LD_ma16_SP :
    runs [0x08, 0x00, 0xC1] (fun s => s.setSp 0xDFF0) 0x0153 5 (fun t => reads 0xC100 0xF0 t && reads 0xC101 0xDF t) = true := by
  decide

/-- R232. -/
theorem test_LD_SP_HL :
    runs [0xF9] (fun s => s.setHl 0xD000) 0x0151 2 (fun t => decide (t.cpu.sp = 0xD000)) = true := by
  decide

/-- R233. -/
theorem test_LD_HL_SPe8 :
    runs [0xF8, 0xFF] (fun s => s.setSp 0x0000) 0x0152 3 (fun t => decide (t.hl = 0xFFFF) && decide (t.cpu.f = 0x00)) = true := by
  decide

/-- R233. -/
theorem test_LD_HL_SPe8_carries :
    runs [0xF8, 0xFF] (fun s => s.setSp 0x0001) 0x0152 3 (fun t => decide (t.hl = 0x0000) && decide (t.cpu.f = 0x30)) = true := by
  decide

/-- R234, R238. -/
theorem test_PUSH_BC :
    runs [0xC5] (fun s => s.setBc 0x1234) 0x0151 4 (fun t => reads 0xFFFD 0x12 t && reads 0xFFFC 0x34 t && decide (t.cpu.sp = 0xFFFC)) = true := by
  decide

/-- R237, R238. -/
theorem test_PUSH_BC_rom :
    faults [0xC5] (fun s => (s.setBc 0x1234).setSp 0x0001) 0x0151 (.notWritable 0x0000) (fun t => decide (t.cpu.sp = 0x0000)) = true := by
  decide

/-- R234. -/
theorem test_PUSH_AF :
    runs [0xF5] (fun s => ((s.setA 0x12).setF 0xF0).setSp 0xD000) 0x0151 4 (fun t => reads 0xCFFF 0x12 t && reads 0xCFFE 0xF0 t) = true := by
  decide

/-- R235, R239. -/
theorem test_POP_HL :
    runs [0xE1] (fun s => (put 0xFFFD 0x12 (put 0xFFFC 0x34 s)).setSp 0xFFFC) 0x0151 3 (fun t => decide (t.hl = 0x1234) && decide (t.cpu.sp = 0xFFFE)) = true := by
  decide

/-- R237, R239, with 0x00 at 0x0000. -/
theorem test_POP_BC_wraps :
    runs [0xC1] (fun s => (put 0xFFFF 0x1F s).setSp 0xFFFF) 0x0151 3 (fun t => decide (t.cpu.c = 0xFF) && decide (t.cpu.b = 0x00) && decide (t.cpu.sp = 0x0001)) = true := by
  decide

/-- R236: the low nibble is masked. -/
theorem test_POP_AF :
    runs [0xF1] (fun s => (put 0xFFFD 0x12 (put 0xFFFC 0xFF s)).setSp 0xFFFC) 0x0151 3 (af 0x12 0xF0) = true := by
  decide

/-- R251. -/
theorem test_ADD_A_d8 :
    runs [0xC6, 0x3A] (fun s => (s.setA 0xC6).setF 0x00) 0x0152 2 (af 0x00 0xB0) = true := by
  decide

/-- R251. -/
theorem test_ADD_A_A :
    runs [0x87] (fun s => (s.setA 0x80).setF 0x00) 0x0151 1 (af 0x00 0x90) = true := by
  decide

/-- R252. -/
theorem test_ADC_A_d8 :
    runs [0xCE, 0xFF] (fun s => (s.setA 0xFF).setF 0x10) 0x0152 2 (af 0xFF 0x30) = true := by
  decide

/-- R252. -/
theorem test_ADC_A_carry :
    runs [0xCE, 0x00] (fun s => (s.setA 0xFF).setF 0x10) 0x0152 2 (af 0x00 0xB0) = true := by
  decide

/-- R253. -/
theorem test_SUB_d8 :
    runs [0xD6, 0x01] (fun s => (s.setA 0x00).setF 0x00) 0x0152 2 (af 0xFF 0x70) = true := by
  decide

/-- R253. -/
theorem test_SUB_A :
    runs [0x97] (fun s => (s.setA 0x3E).setF 0x00) 0x0151 1 (af 0x00 0xC0) = true := by
  decide

/-- R254. -/
theorem test_SBC_A_d8 :
    runs [0xDE, 0x0F] (fun s => (s.setA 0x10).setF 0x10) 0x0152 2 (af 0x00 0xE0) = true := by
  decide

/-- R254. -/
theorem test_SBC_A_A :
    runs [0x9F] (fun s => (s.setA 0x42).setF 0x10) 0x0151 1 (af 0xFF 0x70) = true := by
  decide

/-- R255. -/
theorem test_AND_d8 :
    runs [0xE6, 0x00] (fun s => (s.setA 0x5A).setF 0x00) 0x0152 2 (af 0x00 0xA0) = true := by
  decide

/-- R256. -/
theorem test_XOR_A :
    runs [0xAF] (fun s => (s.setA 0x0F).setF 0xF0) 0x0151 1 (af 0x00 0x80) = true := by
  decide

/-- R256. -/
theorem test_XOR_d8 :
    runs [0xEE, 0xFF] (fun s => (s.setA 0x0F).setF 0x00) 0x0152 2 (af 0xF0 0x00) = true := by
  decide

/-- R257. -/
theorem test_OR_A :
    runs [0xB7] (fun s => (s.setA 0x00).setF 0x70) 0x0151 1 (af 0x00 0x80) = true := by
  decide

/-- R257. -/
theorem test_OR_d8 :
    runs [0xF6, 0x03] (fun s => (s.setA 0x5A).setF 0x00) 0x0152 2 (af 0x5B 0x00) = true := by
  decide

/-- R258. -/
theorem test_CP_d8 :
    runs [0xFE, 0x90] (fun s => (s.setA 0x3C).setF 0x00) 0x0152 2 (af 0x3C 0x50) = true := by
  decide

/-- R258. -/
theorem test_CP_A :
    runs [0xBF] (fun s => (s.setA 0x3C).setF 0x00) 0x0151 1 (af 0x3C 0xC0) = true := by
  decide

/-- R259. -/
theorem test_INC_A :
    runs [0x3C] (fun s => (s.setA 0xFF).setF 0x10) 0x0151 1 (af 0x00 0xB0) = true := by
  decide

/-- R263. -/
theorem test_DAA_add :
    runs [0x27] (fun s => (s.setA 0x9A).setF 0x00) 0x0151 1 (af 0x00 0x90) = true := by
  decide

/-- R263. -/
theorem test_DAA_sub :
    runs [0x27] (fun s => (s.setA 0x4B).setF 0x60) 0x0151 1 (af 0x45 0x40) = true := by
  decide

/-- R264. -/
theorem test_CPL :
    runs [0x2F] (fun s => (s.setA 0x35).setF 0x80) 0x0151 1 (af 0xCA 0xE0) = true := by
  decide

/-- R265. -/
theorem test_SCF :
    runs [0x37] (fun s => (s.setA 0x00).setF 0xE0) 0x0151 1 (af 0x00 0x90) = true := by
  decide

/-- R266. -/
theorem test_CCF :
    runs [0x3F] (fun s => (s.setA 0x00).setF 0x70) 0x0151 1 (af 0x00 0x00) = true := by
  decide

/-- R290: Z is cleared even for a zero result. -/
theorem test_RLCA :
    runs [0x07] (fun s => (s.setA 0x00).setF 0x80) 0x0151 1 (af 0x00 0x00) = true := by
  decide

/-- R291. -/
theorem test_RRCA :
    runs [0x0F] (fun s => (s.setA 0x3B).setF 0x00) 0x0151 1 (af 0x9D 0x10) = true := by
  decide

/-- R292. -/
theorem test_RLA :
    runs [0x17] (fun s => (s.setA 0x95).setF 0x10) 0x0151 1 (af 0x2B 0x10) = true := by
  decide

/-- R293. -/
theorem test_RRA :
    runs [0x1F] (fun s => (s.setA 0x81).setF 0x00) 0x0151 1 (af 0x40 0x10) = true := by
  decide

/-- R295: the prefixed form does set Z. -/
theorem test_RLC_A :
    runs [0xCB, 0x07] (fun s => (s.setA 0x00).setF 0x00) 0x0152 2 (af 0x00 0x80) = true := by
  decide

/-- R298. -/
theorem test_RR_A :
    runs [0xCB, 0x1F] (fun s => (s.setA 0x01).setF 0x00) 0x0152 2 (af 0x00 0x90) = true := by
  decide

/-- R300. -/
theorem test_SRA_A :
    runs [0xCB, 0x2F] (fun s => (s.setA 0x8A).setF 0x00) 0x0152 2 (af 0xC5 0x00) = true := by
  decide

/-- R301. -/
theorem test_SWAP_A :
    runs [0xCB, 0x37] (fun s => (s.setA 0xF1).setF 0x10) 0x0152 2 (af 0x1F 0x00) = true := by
  decide

/-- R302. -/
theorem test_SRL_A :
    runs [0xCB, 0x3F] (fun s => (s.setA 0x01).setF 0x00) 0x0152 2 (af 0x00 0x90) = true := by
  decide

/-- R304. -/
theorem test_RES_0_A :
    runs [0xCB, 0x87] (fun s => (s.setA 0xFF).setF 0x50) 0x0152 2 (af 0xFE 0x50) = true := by
  decide

/-- R251, R267. -/
theorem test_ADD_A_mHL :
    runs [0x86] (fun s => ((put 0xC000 0x02 s).setHl 0xC000).setA 0x01) 0x0151 2 (af 0x03 0x00) = true := by
  decide

/-- R260. -/
theorem test_INC_mHL :
    runs [0x34] (fun s => (put 0xC000 0xFF s).setHl 0xC000) 0x0151 3 (fun t => reads 0xC000 0x00 t && decide (t.cpu.f = 0xA0)) = true := by
  decide

/-- R260, R78. -/
theorem test_INC_mHL_rom :
    faults [0x34] (fun s => s.setHl 0x0150) 0x0151 (.notWritable 0x0150) (fun _ => true) = true := by
  decide

/-- R261. -/
theorem test_DEC_B :
    runs [0x05] (fun s => (s.setB 0x01).setF 0x10) 0x0151 1 (fun t => decide (t.cpu.b = 0x00) && decide (t.cpu.f = 0xD0)) = true := by
  decide

/-- R262. -/
theorem test_DEC_mHL :
    runs [0x35] (fun s => ((put 0xC000 0x01 s).setHl 0xC000).setF 0x10) 0x0151 3 (fun t => reads 0xC000 0x00 t && decide (t.cpu.f = 0xD0)) = true := by
  decide

/-- R280. -/
theorem test_ADD_HL_BC :
    runs [0x09] (fun s => ((s.setHl 0x8A23).setBc 0x0605).setF 0x80) 0x0151 2 (fun t => decide (t.hl = 0x9028) && decide (t.cpu.f = 0xA0)) = true := by
  decide

/-- R280. -/
theorem test_ADD_HL_HL :
    runs [0x29] (fun s => (s.setHl 0x1234).setF 0xB0) 0x0151 2 (fun t => decide (t.hl = 0x2468) && decide (t.cpu.f = 0x80)) = true := by
  decide

/-- R281. -/
theorem test_INC_DE :
    runs [0x13] (fun s => (s.setDe 0x00FF).setF 0x50) 0x0151 2 (fun t => decide (t.de = 0x0100) && decide (t.cpu.f = 0x50)) = true := by
  decide

/-- R281. -/
theorem test_INC_SP :
    runs [0x33] (fun s => s.setSp 0xFFFF) 0x0151 2 (fun t => decide (t.cpu.sp = 0x0000)) = true := by
  decide

/-- R282. -/
theorem test_DEC_BC :
    runs [0x0B] (fun s => s.setBc 0x0000) 0x0151 2 (fun t => decide (t.bc = 0xFFFF) && decide (t.cpu.f = 0x00)) = true := by
  decide

/-- R283. -/
theorem test_ADD_SP_e8 :
    runs [0xE8, 0xFF] (fun s => s.setSp 0xD00F) 0x0152 4 (fun t => decide (t.cpu.sp = 0xD00E) && decide (t.cpu.f = 0x30)) = true := by
  decide

/-- R296. -/
theorem test_RRC_C :
    runs [0xCB, 0x09] (fun s => s.setC 0x01) 0x0152 2 (fun t => decide (t.cpu.c = 0x80) && decide (t.cpu.f = 0x10)) = true := by
  decide

/-- R297. -/
theorem test_RL_L :
    runs [0xCB, 0x15] (fun s => s.setL 0x80) 0x0152 2 (fun t => decide (t.cpu.l = 0x00) && decide (t.cpu.f = 0x90)) = true := by
  decide

/-- R298. -/
theorem test_RR_mHL :
    runs [0xCB, 0x1E] (fun s => ((put 0xC000 0x8A s).setHl 0xC000).setF 0x10) 0x0152 4 (fun t => reads 0xC000 0xC5 t && decide (t.cpu.f = 0x00)) = true := by
  decide

/-- R299. -/
theorem test_SLA_mHL :
    runs [0xCB, 0x26] (fun s => (put 0xC000 0xFF s).setHl 0xC000) 0x0152 4 (fun t => reads 0xC000 0xFE t && decide (t.cpu.f = 0x10)) = true := by
  decide

/-- R303. -/
theorem test_BIT_7_H :
    runs [0xCB, 0x7C] (fun s => (s.setH 0x80).setF 0x10) 0x0152 2 (fun t => decide (t.cpu.f = 0x30)) = true := by
  decide

/-- R303. -/
theorem test_BIT_0_mHL :
    runs [0xCB, 0x46] (fun s => (put 0xC000 0xFE s).setHl 0xC000) 0x0152 3 (fun t => reads 0xC000 0xFE t && decide (t.cpu.f = 0xA0)) = true := by
  decide

/-- R304. -/
theorem test_RES_7_mHL :
    runs [0xCB, 0xBE] (fun s => (put 0xC000 0x80 s).setHl 0xC000) 0x0152 4 (reads 0xC000 0x00) = true := by
  decide

/-- R305. -/
theorem test_SET_3_E :
    runs [0xCB, 0xDB] id 0x0152 2 (fun t => decide (t.cpu.e = 0x08)) = true := by
  decide

/-- R305, R78. -/
theorem test_SET_0_mHL_rom :
    faults [0xCB, 0xC6] (fun s => s.setHl 0x0000) 0x0152 (.notWritable 0x0000) (fun _ => true) = true := by
  decide

/-- R321. -/
theorem test_JP_a16 :
    runs [0xC3, 0x00, 0x02] id 0x0200 4 (fun _ => true) = true := by
  decide

/-- R322. -/
theorem test_JP_Z_taken :
    runs [0xCA, 0x00, 0x02] (fun s => s.setF 0x80) 0x0200 4 (fun _ => true) = true := by
  decide

/-- R322. -/
theorem test_JP_Z_not :
    runs [0xCA, 0x00, 0x02] id 0x0153 3 (fun _ => true) = true := by
  decide

/-- R323. -/
theorem test_JP_HL :
    runs [0xE9] (fun s => s.setHl 0x4000) 0x4000 1 (fun _ => true) = true := by
  decide

/-- R324. -/
theorem test_JR_e8 :
    runs [0x18, 0xFB] id 0x014D 3 (fun _ => true) = true := by
  decide

/-- R325. -/
theorem test_JR_NZ_taken :
    runs [0x20, 0xFC] id 0x014E 3 (fun _ => true) = true := by
  decide

/-- R325. -/
theorem test_JR_NZ_not :
    runs [0x20, 0xFC] (fun s => s.setF 0x80) 0x0152 2 (fun _ => true) = true := by
  decide

/-- R326. -/
theorem test_CALL_a16 :
    runs [0xCD, 0x00, 0x20] id 0x2000 6 (fun t => reads 0xFFFD 0x01 t && reads 0xFFFC 0x53 t && decide (t.cpu.sp = 0xFFFC)) = true := by
  decide

/-- R327. -/
theorem test_CALL_C_not :
    runs [0xDC, 0x00, 0x20] id 0x0153 3 (fun t => decide (t.cpu.sp = 0xFFFE)) = true := by
  decide

/-- R327. -/
theorem test_CALL_C_taken :
    runs [0xDC, 0x00, 0x20] (fun s => s.setF 0x10) 0x2000 6 (reads 0xFFFC 0x53) = true := by
  decide

/-- R328. -/
theorem test_RET :
    runs [0xC9] (fun s => (put 0xFFFD 0x01 (put 0xFFFC 0x53 s)).setSp 0xFFFC) 0x0153 4 (fun t => decide (t.cpu.sp = 0xFFFE)) = true := by
  decide

/-- R329. -/
theorem test_RET_Z_not :
    runs [0xC8] id 0x0151 2 (fun t => decide (t.cpu.sp = 0xFFFE)) = true := by
  decide

/-- R329. -/
theorem test_RET_Z_taken :
    runs [0xC8] (fun s => ((put 0xFFFD 0x01 (put 0xFFFC 0x53 s)).setSp 0xFFFC).setF 0x80) 0x0153 5 (fun _ => true) = true := by
  decide

/-- R330. -/
theorem test_RETI :
    runs [0xD9] (fun s => (put 0xCFFD 0x12 (put 0xCFFC 0x34 s)).setSp 0xCFFC) 0x1234 4 (fun t => t.cpu.ime && decide (t.cpu.sp = 0xCFFE)) = true := by
  decide

/-- R331. -/
theorem test_RST_28 :
    runs [0xEF] (fun s => s.setSp 0xD000) 0x0028 4 (fun t => reads 0xCFFF 0x01 t && reads 0xCFFE 0x51 t) = true := by
  decide

/-- R340. -/
theorem test_NOP :
    runs [0x00] id 0x0151 1 (fun _ => true) = true := by
  decide

/-- R342: sources not enabled do not count. -/
theorem test_HALT :
    runs [0x76] (fun s => (s.setIE 0x04).setIF 0x1B) 0x0151 1 (fun t => decide (t.cpu.runState = .halted) && !t.cpu.haltBug) = true := by
  decide

/-- R342. -/
theorem test_HALT_bug :
    runs [0x76] (fun s => (s.setIE 0x04).setIF 0x04) 0x0151 1 (fun t => decide (t.cpu.runState = .running) && t.cpu.haltBug) = true := by
  decide

/-- R343. -/
theorem test_STOP :
    runs [0x10, 0xFF] id 0x0152 1 (fun t => decide (t.cpu.runState = .stopped)) = true := by
  decide

/-- R344. -/
theorem test_DI :
    runs [0xF3] (fun s => s.setIme true) 0x0151 1 (fun t => !t.cpu.ime) = true := by
  decide

/-- R345. -/
theorem test_EI :
    runs [0xFB] id 0x0151 1 (fun t => t.cpu.ime) = true := by
  decide

/-- R346. -/
theorem test_UNKNOWN :
    faults [0xDD] id 0x0151 (.unknownOpcode 0xDD 0x0150) (fun _ => true) = true := by
  decide

/-- R305: 0xDD is harmless as a second byte. -/
theorem test_SET_3_L :
    runs [0xCB, 0xDD] id 0x0152 2 (fun t => decide (t.cpu.l = 0x08)) = true := by
  decide

/-- K9, R178: the operand is read from the opcode byte. -/
theorem test_HALT_bug_operand :
    runs [0x3E, 0x14] (fun s => s.setHaltBug true) 0x0151 2 (fun t => decide (t.cpu.a = 0x3E) && !t.cpu.haltBug) = true := by
  decide

/-- K10, R178: the second byte is 0xCB itself. -/
theorem test_HALT_bug_prefix :
    runs [0xCB, 0x37] (fun s => s.setHaltBug true) 0x0151 2 (fun t => decide (t.cpu.e = 0x02)) = true := by
  decide

/-! ### Words written out from the tables of `spec/30_encoding.md`, one theorem a family -/

/-- R143, R146 to R149, R156: `01 yyy zzz`, `00 yyy 110`, the pointer and high-page rows. -/
theorem test_words_loads8 :
    decode [0b01000001#8] = .ok (.ld_B_C, []) ∧ decode [0b01111110#8] = .ok (.ld_A_mHL, []) ∧
    decode [0b01110101#8] = .ok (.ld_mHL_L, []) ∧ decode [0b00010110#8, 0x42#8] = .ok (.ld_D_d8 0x42, []) ∧
    decode [0b00110010#8] = .ok (.ld_mHLd_A, []) ∧ decode [0b00011010#8] = .ok (.ld_A_mDE, []) ∧
    decode [0b11100000#8, 0x46#8] = .ok (.ldh_ma8_A 0x46, []) ∧
    decode [0b11111010#8, 0x34#8, 0xC2#8] = .ok (.ld_A_ma16 0xC234, []) :=
  ⟨rfl, rfl, rfl, rfl, rfl, rfl, rfl, rfl⟩

/-- R144, R145, R156: `00 pp 0001`, `11 pp 0101`, `11 pp 0001` and the SP rows; immediates low byte first (R148). -/
theorem test_words_loads16 :
    decode [0b00100001#8, 0x00#8, 0xC0#8] = .ok (.ld_HL_d16 0xC000, []) ∧ decode [0b11000101#8] = .ok (.push_BC, []) ∧
    decode [0b11110001#8] = .ok (.pop_AF, []) ∧ decode [0b11111001#8] = .ok (.ld_SP_HL, []) ∧
    decode [0b11111000#8, 0xFF#8] = .ok (.ld_HL_SPe8 0xFF, []) :=
  ⟨rfl, rfl, rfl, rfl, rfl⟩

/-- R143, R155, R156: `10 yyy zzz`, `11 yyy 110`, `00 yyy 100`, `00 yyy 101` and the accumulator rows. -/
theorem test_words_alu8 :
    decode [0b10000110#8] = .ok (.add_A_mHL, []) ∧ decode [0b10010111#8] = .ok (.sub_A, []) ∧
    decode [0b11101110#8, 0xFF#8] = .ok (.xor_d8 0xFF, []) ∧ decode [0b00110100#8] = .ok (.inc_mHL, []) ∧
    decode [0b00000101#8] = .ok (.dec_B, []) ∧ decode [0b00100111#8] = .ok (.daa, []) :=
  ⟨rfl, rfl, rfl, rfl, rfl, rfl⟩

/-- R144, R156: `00 pp 1001`, `00 pp 0011`, `00 pp 1011` and ADD SP. -/
theorem test_words_alu16 :
    decode [0b00011001#8] = .ok (.add_HL_DE, []) ∧ decode [0b00110011#8] = .ok (.inc_SP, []) ∧
    decode [0b00001011#8] = .ok (.dec_BC, []) ∧ decode [0b11101000#8, 0x01#8] = .ok (.add_SP_e8 0x01, []) :=
  ⟨rfl, rfl, rfl, rfl⟩

/-- R154, R157: 0xCB and `xx yyy zzz`; and the rotates of A. -/
theorem test_words_rotates_bits :
    decode [0b00011111#8] = .ok (.rra, []) ∧ decode [0xCB#8, 0b00101111#8] = .ok (.sra_A, []) ∧
    decode [0xCB#8, 0b00010001#8] = .ok (.rl_C, []) ∧ decode [0xCB#8, 0b01000110#8] = .ok (.bit_0_mHL, []) ∧
    decode [0xCB#8, 0b10000111#8] = .ok (.res_0_A, []) ∧ decode [0xCB#8, 0b11011101#8] = .ok (.set_3_L, []) :=
  ⟨rfl, rfl, rfl, rfl, rfl, rfl⟩

/-- R152, R153, R156: the control flow rows, conditions in bits 4:3, targets of RST in bits 5:3. -/
theorem test_words_control :
    decode [0b11000011#8, 0x50#8, 0x01#8] = .ok (.jp_a16 0x0150, []) ∧ decode [0b11101001#8] = .ok (.jp_HL, []) ∧
    decode [0b00100000#8, 0xFC#8] = .ok (.jr_NZ_e8 0xFC, []) ∧ decode [0b11011000#8] = .ok (.ret_C, []) ∧
    decode [0b11001100#8, 0x00#8, 0x20#8] = .ok (.call_Z_a16 0x2000, []) ∧ decode [0b11111111#8] = .ok (.rst_38, []) ∧
    decode [0b11011001#8] = .ok (.reti, []) :=
  ⟨rfl, rfl, rfl, rfl, rfl, rfl, rfl⟩

/-- R156, R159: the system rows; the padding byte of STOP belongs to it; an unknown byte stands alone. -/
theorem test_words_system :
    decode [0x00#8] = .ok (.nop, []) ∧ decode [0x10#8, 0xFF#8] = .ok (.stop 0xFF, []) ∧ decode [0xF3#8] = .ok (.di, []) ∧
    decode [0xFB#8] = .ok (.ei, []) ∧ decode [0xDD#8, 0x01#8] = .ok (.unknown 0xDD, [0x01]) :=
  ⟨rfl, rfl, rfl, rfl, rfl⟩

/-- The table's numbering of bits (log entry 13): a prefixed row has the prefix byte first. -/
theorem test_table_words :
    decodeTableWord 8 0x78 = some .ld_A_B ∧ decodeTableWord 16 0xCB7C = some .bit_7_H ∧
    decodeTableWord 8 0xCB = some .prefix_CB ∧ decodeTableWord 8 0xC3 = some (.jp_a16 0x0000) := by
  decide

/-- R159: the one check of `wellFormed`, and the ill-formed term it refuses. -/
theorem test_wellFormed_refuses :
    (Instr.unknown 0x00).wellFormed = false ∧ (Instr.unknown 0xCB).wellFormed = false ∧
    (Instr.unknown 0xD3).wellFormed = true := by
  decide

/-! ### The CPU step (part 2.8) -/

/-- The state a CPU step leaves. -/
def cpuAfter (s : State) : State := after (cpuStep s)

/-- A source pending and enabled, IME as given. -/
def withInts (ime : Bool) (ie if_ : BitVec 5) (s : State) : State := ((s.setIE ie).setIF if_).setIme ime

/-- K1, R171, R172: the first step loads the power-up record, does not advance the Timer, and runs the first instruction
(here INC A put at the entry point, A being 0x01). -/
theorem test_K1_first_step :
    (let t := after (step (State.reset.withFetchWord 8 0x3C))
     t.cpu.a = 0x02 ∧ t.cpu.pc = 0x0101 ∧ t.cpu.sp = 0xFFFE ∧ t.timer.counter = 0 ∧ t.cpu.runState = .running) := by
  decide

/-- K2, R173: a pending cycle is consumed, the Timer advances, nothing is dispatched. -/
theorem test_K2_pending_cycle :
    (let t := cpuAfter ((withInts true 0x04 0x04 (start [])).setPending 2)
     t.cpu.pendingCycles = 1 ∧ t.timer.counter = 1 ∧ t.ints.pending = 0x04 ∧ t.cpu.pc = 0x0150) := by
  decide

/-- K3, R171, R176: the dispatch ends the step with 4 cycles left. -/
theorem test_K3_dispatch :
    (let t := cpuAfter (withInts true 0x04 0x04 (start []))
     t.cpu.pendingCycles = 4 ∧ t.cpu.pc = 0x0050 ∧ t.cpu.ime = false ∧ t.ints.pending = 0) := by
  decide

/-- K5, R174: STOPPED leaves on a source that is not enabled, and INC A runs in the same step. -/
theorem test_K5_stop_wakes :
    (let t := cpuAfter ((withInts false 0x00 0x10 (start [0x3C])).setRunState .stopped)
     t.cpu.runState = .running ∧ t.cpu.a = 0x01 ∧ t.ints.pending = 0x10) := by
  decide

/-- K6, K7, R175: HALTED leaves only on a source pending and enabled, and nothing is fetched in that step. -/
theorem test_K6_K7_halt :
    (let t := cpuAfter ((withInts false 0x10 0x10 (start [0x3C])).setRunState .halted)
     t.cpu.runState = .running ∧ t.cpu.a = 0x00 ∧ t.cpu.pc = 0x0150) ∧
    (cpuAfter ((withInts false 0x04 0x10 (start [0x3C])).setRunState .halted)).cpu.runState = .halted := by
  decide

/-- K8, R178: with the HALT bug armed PC is not advanced. -/
theorem test_K8_halt_bug :
    (let t := cpuAfter ((start [0x3C]).setHaltBug true)
     t.cpu.a = 0x01 ∧ t.cpu.pc = 0x0150 ∧ t.cpu.haltBug = false) := by
  decide

/-- K11, R183: two CPU steps in one double-speed tick. -/
theorem test_K11_double_speed :
    (let t := after (step { startCgb [0x3C, 0x3C] with doubleSpeed := true })
     t.cpu.a = 0x02 ∧ t.timer.counter = 2) := by
  decide

/-- K12, R350: in the fault state a step changes nothing. -/
theorem test_K12_fault_state :
    step ((start [0x3C]).setFault (.notWritable 0)) = .next ((start [0x3C]).setFault (.notWritable 0)) :=
  rfl

/-! ### Interrupts (part 2.9) -/

/-- I1, R360, R363: all five pending, the lowest is taken. -/
theorem test_I1_lowest_source :
    (let t := (interruptDispatch ((withInts true 0x1F 0x1F (start [])).setPc 0x0200)).state
     t.ints.pending = 0x1E ∧ t.cpu.pc = 0x0040 ∧ t.peek 0xFFFD = some 0x02 ∧ t.peek 0xFFFC = some 0x00 ∧
     t.cpu.sp = 0xFFFC) := by
  decide

/-- I2, R360: the only source enabled and pending. -/
theorem test_I2_enabled_source :
    (let t := (interruptDispatch (withInts true 0x14 0x1A (start []))).state
     t.ints.pending = 0x0A ∧ t.cpu.pc = 0x0060) := by
  decide

/-- I3, I4, R360, R366: nothing enabled is pending; IME is 0. -/
theorem test_I3_I4_nothing :
    interruptDispatch (withInts true 0x04 0x1B (start [])) = .ok 0 (withInts true 0x04 0x1B (start [])) ∧
    interruptDispatch (withInts false 0x1F 0x1F (start [])) = .ok 0 (withInts false 0x1F 0x1F (start [])) := by
  decide

/-- The cost a dispatch charges. -/
def dispatchCost (s : State) : Option Nat :=
  match interruptDispatch s with
  | .ok n _ => some n
  | .fatal _ => none

/-- I5, I6, R361, R362: 6 out of HALTED, 5 out of STOPPED. -/
theorem test_I5_I6_costs :
    dispatchCost ((withInts true 0x04 0x04 (start [])).setRunState .halted) = some 6 ∧
    dispatchCost ((withInts true 0x10 0x10 (start [])).setRunState .stopped) = some 5 := by
  decide

/-- I7, R357: occurrences are not counted. -/
theorem test_I7_raise_twice :
    (((start []).raiseInterrupt .timer).raiseInterrupt .timer).ints.pending = 0x04 := by
  decide

/-- I10, R360: the push is fatal, the IF bit and IME are cleared before it. -/
theorem test_I10_fatal_push :
    (let t := (interruptDispatch ((withInts true 0x04 0x04 (start [])).setSp 0x0001)).state
     t.fault = some (.notWritable 0x0000) ∧ t.ints.pending = 0 ∧ t.cpu.ime = false) := by
  decide

/-! ### Timer and registers (parts 2.10 and 2.13) -/

/-- A state with the Timer given. -/
def withTimer (t : Timer) : State := (start []).setTimer t

/-- T1, R401, R404: TAC = 05, `tima` counts when the counter becomes 4. -/
theorem test_timer_increment :
    (timerStep (withTimer { counter := 3, div := 0, tima := 0, tma := 0, running := true, rate := 1 })).timer.tima = 1 ∧
    (timerStep (withTimer { counter := 4, div := 0, tima := 1, tma := 0, running := true, rate := 1 })).timer.tima = 1 := by
  decide

/-- R405: overflow reloads and raises the timer interrupt in the same step. -/
theorem test_timer_overflow :
    (let t := timerStep (withTimer { counter := 0xFF, div := 3, tima := 0xFF, tma := 0xFC, running := true, rate := 0 })
     t.timer.tima = 0xFC ∧ t.ints.pending = 0x04 ∧ t.timer.div = 4 ∧ t.timer.counter = 0) := by
  decide

/-- R108, R111, R100, R106: forced bits. -/
theorem test_forced_bits :
    (put 0xFF41 0xFF (start [])).peek 0xFF41 = some 0xFC ∧ (put 0xFF00 0x00 (start [])).peek 0xFF00 = some 0xCF ∧
    (put 0xFF0F 0x00 (start [])).peek 0xFF0F = some 0xE0 ∧ (put 0xFF07 0x01 (start [])).peek 0xFF07 = some 0xF9 ∧
    (put 0xFF44 0x55 (start [])).peek 0xFF44 = some 0x00 ∧ (put 0xFEA0 0x12 (start [])).peek 0xFEA0 = some 0xFF := by
  decide

/-- R114, R115, R120, R497: the colour registers. -/
theorem test_colour_registers :
    (put 0xFF70 0x00 (startCgb [])).peek 0xFF70 = some 0xF8 ∧ (put 0xFF70 0x0A (startCgb [])).peek 0xFF70 = some 0xFA ∧
    (put 0xFF4F 0xFF (startCgb [])).peek 0xFF4F = some 0xFF ∧ (put 0xFF4D 0xFF (startCgb [])).peek 0xFF4D = some 0x7F ∧
    (put 0xFF68 0x80 (startCgb [])).peek 0xFF68 = some 0xC0 := by
  decide

/-- R100: the direction buttons are bits 0 to 3, selected by a 0 in bit 4; a press clears its bit and raises source 4. -/
theorem test_joypad :
    (let t := hostPress 0 (put 0xFF00 0x20 (start []))
     t.peek 0xFF00 = some 0xEE ∧ t.ints.pending = 0x10 ∧ (put 0xFF00 0x10 t).peek 0xFF00 = some 0xDF) := by
  decide

/-! ### Transfers (part 2.11) -/

/-- Colour mode, HDMA1 to HDMA4 as given. -/
def withHdma (a b c d : Byte) : State :=
  put 0xFF54 d (put 0xFF53 c (put 0xFF52 b (put 0xFF51 a (startCgb []))))

/-- X10, X11, X12, R432: invalid blocks. -/
theorem test_X10_to_X12_bad_blocks :
    (put 0xFF55 0x00 (withHdma 0x40 0x00 0x7F 0x00)).fault = some (.hdmaBadAddress 0x4000 0x7F00 16) ∧
    (put 0xFF55 0x00 (withHdma 0xC0 0x00 0x80 0x00)).fault = some (.hdmaBadAddress 0xC000 0x8000 16) ∧
    (put 0xFF55 0x01 (withHdma 0x7F 0xF0 0x80 0x00)).fault = some (.hdmaBadAddress 0x7FF0 0x8000 32) := by
  decide

/-- X13, R431: the low four bits are dropped. -/
theorem test_X13_aligned :
    (let t := put 0xFF55 0x00 (withHdma 0x40 0x0F 0x9F 0xF5)
     t.hdma.src = 0x4000 ∧ t.hdma.dst = 0x9FF0 ∧ t.hdma.active = true ∧ t.hdma.len = 16 ∧ t.fault = none) := by
  decide

/-- X14, R118: in legacy mode 0xFF55 is plain storage. -/
theorem test_X14_legacy :
    (let t := put 0xFF55 0x12 (start [])
     t.peek 0xFF55 = some 0x12 ∧ t.hdma.active = false) := by
  decide

/-- R423: the second tick of an immediate transfer moves the first byte. -/
theorem test_oam_second_tick :
    (let t := (transferStep (transferStep (put 0xFF46 0xC1 (put 0xC100 0xA5 (start [])))).state).state
     t.peek 0xFE00 = some 0xA5 ∧ t.oamDma.copied = 1 ∧ t.oamDma.ticks = 2) := by
  decide

/-! ### Video (part 2.12) -/

/-- The common setup of the compositor vectors, with LCDC = `lcdc`; tile 1 is 16 bytes 0xFF. -/
def picture (lcdc : Byte) (m : Mode) : State :=
  let s := { start [] with mode := m }
  let vram := placeAt 0 [0xF0, 0x00, 0xF0, 0x00, 0xF0, 0x00, 0xF0, 0x00, 0x0F, 0x0F, 0x0F, 0x0F, 0x0F, 0x0F, 0x0F, 0x0F] []
  let s := s.setMem { s.mem with vram := placeAt 16 (List.replicate 16 0xFF) vram }
  put 0xFF40 lcdc (put 0xFF49 0xE4 (put 0xFF48 0xE4 (put 0xFF47 0xE4 s)))

/-- OAM entry 0. -/
def entry0 (y x t a : Byte) (s : State) : State := s.setMem { s.mem with oam := placeAt 0 [y, x, t, a] [] }

/-- The R bytes of some pixels of line `l`. -/
def pixels (s : State) (l : Nat) (xs : List Nat) : List Byte := xs.map fun x => (linePixel s (selectSprites s l) l x).r

/-- V1, V2, V8, R484, R488. -/
theorem test_V1_background :
    pixels (picture 0x91 .dmg) 0 [0, 3, 4, 7, 8, 159] = [0xAA, 0xAA, 0xFF, 0xFF, 0xAA, 0xFF] ∧
    pixels (picture 0x91 .dmg) 4 [0, 4] = [0xFF, 0x00] := by
  decide

/-- V3, R484: SCX wraps round the map. -/
theorem test_V3_scroll :
    pixels (put 0xFF43 0xFC (picture 0x91 .dmg)) 0 [0, 3, 4, 7, 8] = [0xFF, 0xFF, 0xAA, 0xAA, 0xFF] := by
  decide

/-- V4, V5, R486, R487: a sprite below is hidden over index 1 and shown over index 0. -/
theorem test_V4_V5_sprite :
    pixels (entry0 0x10 0x08 0x01 0x80 (picture 0x93 .dmg)) 0 [0, 4, 8] = [0xAA, 0x00, 0xAA] ∧
    pixels (entry0 0x10 0x08 0x01 0x00 (picture 0x93 .dmg)) 0 [0, 4, 8] = [0x00, 0x00, 0xAA] := by
  decide

/-- V6, R483: background off. -/
theorem test_V6_background_off :
    pixels (entry0 0x10 0x08 0x01 0x80 (picture 0x92 .dmg)) 0 [0, 7, 8] = [0x00, 0x00, 0xFF] := by
  decide

/-- V7, R482, R485: the window from x = 4. -/
theorem test_V7_window :
    pixels (put 0x9C00 0x01 (put 0xFF4B 0x0B (picture 0xF1 .dmg))) 0 [0, 3, 4, 11, 12] = [0xAA, 0xAA, 0x00, 0x00, 0xAA] := by
  decide

/-- R451, R453: line 143 ends in VBLANK, the vblank source raised. -/
theorem test_vblank_entry :
    (let s := picture 0x91 .dmg
     let t := videoStep (s.setVideo { s.video with line := 143, lineT := 113, enableDelay := 0 })
     t.video.line = 144 ∧ t.video.lineT = 0 ∧ t.video.mode = .vblank ∧ t.ints.pending = 0x01) := by
  decide

/-! ### Witnesses: concrete states and operands that meet the hypotheses of the statements -/

/-- A read that gives a byte. -/
def ReadsOk (a : Word) (s : State) : Prop := ∃ v t, busRead16 a s = .ok v t

/-- A read that is fatal. -/
def ReadsFatal (a : Word) (s : State) : Prop := ∃ t, busRead16 a s = .fatal t

/-- A write that completes. -/
def WritesOk (a : Word) (v : Byte) (s : State) : Prop := ∃ t, busWrite16 a v s = .ok () t

/-- A write that is fatal. -/
def WritesFatal (a : Word) (v : Byte) (s : State) : Prop := ∃ t, busWrite16 a v s = .fatal t

/-- A read, then a write of a function of the byte read, that completes. -/
def ModifiesOk (a : Word) (f : Byte → Byte) (s : State) : Prop :=
  ∃ v t u, busRead16 a s = .ok v t ∧ busWrite16 a (f v) t = .ok () u

/-- A read, then a write of a function of the byte read, that is fatal. -/
def ModifiesFatal (a : Word) (f : Byte → Byte) (s : State) : Prop :=
  ∃ v t u, busRead16 a s = .ok v t ∧ busWrite16 a (f v) t = .fatal u

/-- A result is not a fatal error. -/
def okRes {α : Type} : Res α → Bool
  | .ok _ _ => true
  | .fatal _ => false

theorem exists_ok {α : Type} {r : Res α} (h : okRes r = true) : ∃ v t, r = .ok v t := by
  cases r with
  | ok v t => exact ⟨v, t, rfl⟩
  | fatal t => cases h

theorem exists_done {r : Res Unit} (h : okRes r = true) : ∃ t, r = .ok () t := by
  obtain ⟨_, t, ht⟩ := exists_ok h
  exact ⟨t, ht⟩

theorem exists_fatal {α : Type} {r : Res α} (h : okRes r = false) : ∃ t, r = .fatal t := by
  cases r with
  | ok v t => cases h
  | fatal t => exact ⟨t, rfl⟩

/-- An outcome is a next state. -/
def isNext : Out → Bool
  | .next _ => true
  | .fault _ => false
  | .refused _ => false

theorem exists_next {o : Out} (h : isNext o = true) : ∃ t, o = .next t := by
  cases o with
  | next t => exact ⟨t, rfl⟩
  | fault e => cases h
  | refused e => cases h

/-- RUNNING, a cartridge loaded. -/
def s0 : State := start []

/-- The same in colour mode. -/
def s0c : State := startCgb []

/-- The bank facts of the state after reset, RUNNING. -/
theorem s0_banksInv : s0.BanksInv := by
  constructor <;> decide

/-- A bank controller's hook, the last bank of each window shown. -/
def banked : State :=
  let s := s0.setBanks { s0.banks with cart := { romBank := 0xFFFF, ramBank := 0xFFFF, ramOn := true, own := 0 } }
  { s with params := { s.params with cartWrite := .hook } }

/-- No cartridge. -/
def noCart : State := { start [] with cartLoaded := false }

/-- A boot ROM mapped. -/
def booting : State := State.launch { Launch.default with bootRom := some [] }

theorem witness_LoadRegisters :
    ((0 : BitVec 3) ≠ 6 ∧ (7 : BitVec 3) ≠ 6) ∧ (R8.b ≠ .mHL ∧ R8.a ≠ .mHL) ∧
    ReadsOk (s0.setHl 0x7FFF).hl (s0.setHl 0x7FFF) ∧ ReadsFatal (noCart.setHl 0x7FFF).hl (noCart.setHl 0x7FFF) ∧
    WritesOk (s0.setHl 0x8000).hl ((s0.setHl 0x8000).reg .h) (s0.setHl 0x8000) ∧
    WritesFatal (s0.setHl 0x7FFF).hl ((s0.setHl 0x7FFF).reg .l) (s0.setHl 0x7FFF) ∧
    WritesOk (s0.setHl 0xFFFF).hl 0x07 (s0.setHl 0xFFFF) ∧ WritesFatal (s0.setHl 0x0000).hl 0x07 (s0.setHl 0x0000) :=
  ⟨by decide, by decide, ⟨_, _, rfl⟩, ⟨_, rfl⟩, ⟨_, rfl⟩, ⟨_, rfl⟩, ⟨_, rfl⟩, ⟨_, rfl⟩⟩

theorem witness_AccumulatorLoadsAndStores :
    ReadsOk (s0.setBc 0x0000).bc (s0.setBc 0x0000) ∧ ReadsOk (s0.setDe 0xFFFF).de (s0.setDe 0xFFFF) ∧
    ReadsOk (s0.setHl 0x9FFF).hl (s0.setHl 0x9FFF) ∧ WritesOk (s0.setBc 0xC010).bc s0.cpu.a (s0.setBc 0xC010) ∧
    WritesOk (s0.setDe 0xC020).de s0.cpu.a (s0.setDe 0xC020) ∧ WritesOk (s0.setHl 0xFFFF).hl s0.cpu.a (s0.setHl 0xFFFF) ∧
    ReadsFatal noCart.bc noCart ∧ ReadsFatal noCart.de noCart ∧ ReadsFatal noCart.hl noCart ∧
    WritesFatal s0.bc s0.cpu.a s0 ∧ WritesFatal s0.de s0.cpu.a s0 ∧ WritesFatal s0.hl s0.cpu.a s0 :=
  ⟨⟨_, _, rfl⟩, ⟨_, _, rfl⟩, ⟨_, _, rfl⟩, ⟨_, rfl⟩, ⟨_, rfl⟩, ⟨_, rfl⟩, ⟨_, rfl⟩, ⟨_, rfl⟩, ⟨_, rfl⟩, ⟨_, rfl⟩, ⟨_, rfl⟩, ⟨_, rfl⟩⟩

theorem witness_AccumulatorLoadsAndStores_addressed :
    ReadsOk 0xC234 s0 ∧ ReadsFatal 0xBFFF noCart ∧ WritesOk 0xC000 s0.cpu.a s0 ∧ WritesFatal 0x7FFF s0.cpu.a s0 ∧
    ReadsOk (0xFF00 ||| (0x00 : Byte).setWidth 16) s0 ∧ ReadsOk (0xFF00 ||| (0xFF : Byte).setWidth 16) s0 ∧
    WritesOk (0xFF00 ||| (0x46 : Byte).setWidth 16) s0.cpu.a s0 ∧ WritesFatal (0xFF00 ||| (0x55 : Byte).setWidth 16) s0c.cpu.a s0c ∧
    ReadsOk (0xFF00 ||| (s0.setC 0x0F).cpu.c.setWidth 16) (s0.setC 0x0F) ∧
    WritesOk (0xFF00 ||| (s0.setC 0x07).cpu.c.setWidth 16) s0.cpu.a (s0.setC 0x07) ∧
    WritesFatal (0xFF00 ||| (s0c.setC 0x55).cpu.c.setWidth 16) s0c.cpu.a (s0c.setC 0x55) :=
  ⟨exists_ok (by decide), exists_fatal (by decide), exists_done (by decide), exists_fatal (by decide),
    exists_ok (by decide), exists_ok (by decide), exists_done (by decide), exists_fatal (by decide),
    exists_ok (by decide), exists_done (by decide), exists_fatal (by decide)⟩

theorem witness_StoreStackPointer :
    (∃ t u, busWrite16 0xC100 0xFE s0 = .ok () t ∧ busWrite16 0xC101 0xFF t = .ok () u) ∧
    (∃ t u, busWrite16 0xFFFF 0xFE s0 = .ok () t ∧ busWrite16 (0xFFFF + 1) 0xFF t = .fatal u) ∧
    WritesFatal 0x7FFF 0xFE s0 ∧ BitVec.ofNat 8 s0.cpu.sp.toNat = 0xFE ∧ BitVec.ofNat 8 (s0.cpu.sp.toNat / 256) = 0xFF :=
  ⟨⟨_, _, rfl, rfl⟩, ⟨_, _, rfl, rfl⟩, ⟨_, rfl⟩, by decide, by decide⟩

theorem witness_PushAndPop :
    (∃ t, busWrite16 ((s0.setSp 0x0000).cpu.sp - 1) 0x12 (s0.setSp 0xFFFF) = .ok () t) ∧
    (∃ t, busWrite16 ((s0.setSp 0x0001).cpu.sp - 1) 0x12 (s0.setSp 0x0000) = .fatal t) ∧
    (∃ lo hi t u, busRead16 0xFFFE (s0.setSp 0xFFFE) = .ok lo t ∧ busRead16 0xFFFF (t.setSp 0xFFFF) = .ok hi u) ∧
    (∃ lo t u, busRead16 0xFFFF (noCart.setSp 0xFFFF) = .ok lo t ∧ busRead16 (0xFFFF + 1) (t.setSp (0xFFFF + 1)) = .fatal u) ∧
    (∃ t, busRead16 0x7FFF (noCart.setSp 0x7FFF) = .fatal t) ∧
    (∃ t, push16 s0.bc s0 = .ok () t) ∧ (∃ t, push16 s0.af (s0.setSp 0x8001) = .fatal t) ∧
    (∃ v t, pop16 (s0.setSp 0xFFFC) = .ok v t) ∧ (∃ t, pop16 (noCart.setSp 0xFFFF) = .fatal t) :=
  ⟨⟨_, rfl⟩, ⟨_, rfl⟩, ⟨_, _, _, _, rfl, rfl⟩, ⟨_, _, _, rfl, rfl⟩, ⟨_, rfl⟩, ⟨_, rfl⟩, ⟨_, rfl⟩, ⟨_, _, rfl⟩, ⟨_, rfl⟩⟩

/-- The two cells under SP are memory, and a push there completes. -/
abbrev PushesOnto (sp : Word) (s : State) : Prop :=
  s.isMemory ((s.setSp sp).cpu.sp - 1).toNat ∧ s.isMemory ((s.setSp sp).cpu.sp - 2).toNat ∧
    okRes (push16 0x1234 (s.setSp sp)) = true

/-- HRAM, where the power-up SP points, at both ends; VRAM, cartridge RAM, the echo and OAM at a boundary. -/
theorem witness_PushThenPopReturnsTheWord :
    Memory.wf s0.mem ∧ s0.BanksInv ∧ PushesOnto 0xFFFE s0 ∧ PushesOnto 0xFFFF s0 ∧ PushesOnto 0xFF82 s0 ∧
    PushesOnto 0x8002 s0 ∧ PushesOnto 0xA001 s0 ∧ PushesOnto 0xE001 s0 ∧ PushesOnto 0xFEA0 s0 :=
  ⟨by decide, s0_banksInv, by decide, by decide, by decide, by decide, by decide, by decide, by decide⟩

theorem witness_AccumulatorOperandForms :
    R8.b ≠ .mHL ∧ R8.a ≠ .mHL ∧ ReadsOk (s0.setHl 0xC000).hl (s0.setHl 0xC000) ∧ ReadsFatal noCart.hl noCart :=
  ⟨by decide, by decide, ⟨_, _, rfl⟩, ⟨_, rfl⟩⟩

theorem witness_AccumulatorOperations :
    ∀ op ∈ [AluOp.and, AluOp.xor, AluOp.or], op = .and ∨ op = .xor ∨ op = .or := by
  decide

theorem witness_IncrementDecrementByte :
    R8.b ≠ .mHL ∧ R8.a ≠ .mHL ∧ ModifiesOk (s0.setHl 0xC000).hl (· + 1) (s0.setHl 0xC000) ∧
    ModifiesFatal (s0.setHl 0x7FFF).hl (· + 1) (s0.setHl 0x7FFF) ∧ ModifiesOk (s0.setHl 0xFFFE).hl (· - 1) (s0.setHl 0xFFFE) ∧
    ModifiesFatal (s0.setHl 0x0000).hl (· - 1) (s0.setHl 0x0000) ∧ ReadsFatal noCart.hl noCart :=
  ⟨by decide, by decide, ⟨_, _, _, rfl, rfl⟩, ⟨_, _, _, rfl, rfl⟩, ⟨_, _, _, rfl, rfl⟩, ⟨_, _, _, rfl, rfl⟩, ⟨_, rfl⟩⟩

theorem witness_RotatesAndShifts :
    R8.b ≠ .mHL ∧ R8.a ≠ .mHL ∧ ModifiesOk (s0.setHl 0x8000).hl (fun v => BitVec.ofNat 8 (v.toNat / 2)) (s0.setHl 0x8000) ∧
    ModifiesFatal (s0.setHl 0x7FFF).hl (fun v => BitVec.ofNat 8 (2 * v.toNat)) (s0.setHl 0x7FFF) ∧ ReadsFatal noCart.hl noCart :=
  ⟨by decide, by decide, ⟨_, _, _, rfl, rfl⟩, ⟨_, _, _, rfl, rfl⟩, ⟨_, rfl⟩⟩

theorem witness_BitInstructions :
    R8.b ≠ .mHL ∧ R8.a ≠ .mHL ∧ ReadsOk (s0.setHl 0xC000).hl (s0.setHl 0xC000) ∧
    ModifiesOk (s0.setHl 0xDFFF).hl (fun v => BitVec.ofNat 8 (v.toNat + 2 ^ 7 * (1 - v.toNat / 2 ^ 7 % 2))) (s0.setHl 0xDFFF) ∧
    ModifiesFatal (s0.setHl 0x0000).hl (fun v => BitVec.ofNat 8 (v.toNat - 2 ^ 0 * (v.toNat / 2 ^ 0 % 2))) (s0.setHl 0x0000) ∧
    ReadsFatal noCart.hl noCart :=
  ⟨by decide, by decide, ⟨_, _, rfl⟩, ⟨_, _, _, rfl, rfl⟩, ⟨_, _, _, rfl, rfl⟩, ⟨_, rfl⟩⟩

theorem witness_PrefixByteRunsAlternateTable : ReadsOk s0.cpu.pc s0 ∧ ReadsFatal noCart.cpu.pc noCart :=
  ⟨⟨_, _, rfl⟩, ⟨_, rfl⟩⟩

theorem witness_CallsAndReturns :
    (s0.cond .z = false ∧ s0.cond .nz = true ∧ s0.cond .c = false ∧ s0.cond .nc = true) ∧
    (∃ t, push16 s0.cpu.pc s0 = .ok () t) ∧ (∃ t, push16 s0.cpu.pc (s0.setSp 0x0001) = .fatal t) ∧
    (∃ v t, pop16 (s0.setSp 0xFFFC) = .ok v t) ∧ (∃ t, pop16 (noCart.setSp 0xFFFF) = .fatal t) :=
  ⟨by decide, ⟨_, rfl⟩, ⟨_, rfl⟩, ⟨_, _, rfl⟩, ⟨_, rfl⟩⟩

theorem witness_SystemInstructions :
    (s0.setIme true).cpu.ime = true ∧ (s0.cpu.ime = false) ∧
    (∀ k, s0.ints.enabled.getLsbD k = false ∨ s0.ints.pending.getLsbD k = false) ∧
    (∃ k, (withInts false 0x10 0x10 s0).ints.enabled.getLsbD k = true ∧
      (withInts false 0x10 0x10 s0).ints.pending.getLsbD k = true) :=
  ⟨by decide, by decide, fun k => .inl (by rw [show s0.ints.enabled = 0 from rfl]; simp), 4, by decide, by decide⟩

theorem witness_UnknownOpcodesAreFatal :
    busRead16 (start [0xDD]).cpu.pc (start [0xDD]) = .ok 0xDD (start [0xDD]) ∧ (start [0xDD]).cpu.haltBug = false :=
  ⟨rfl, rfl⟩

theorem witness_NonStoringFrame :
    (storeAddrs .daa s0 = [] ∧ ∃ t, exec .daa s0 = .next t) ∧
    (storeAddrs .ld_B_mHL s0 = [] ∧ ∃ t, exec .ld_B_mHL s0 = .next t) ∧
    (storeAddrs (.call_Z_a16 0x2000) s0 = [] ∧ ∃ t, exec (.call_Z_a16 0x2000) s0 = .next t) :=
  ⟨⟨rfl, _, rfl⟩, ⟨rfl, _, rfl⟩, ⟨rfl, _, rfl⟩⟩

theorem witness_StoringFrame :
    Memory.wf s0.mem ∧ s0.BanksInv ∧
    (∃ t, exec .ld_mHL_A (s0.setHl 0xC000) = .next t) ∧
    (∀ a ∈ storeAddrs .ld_mHL_A (s0.setHl 0xC000), storeReach s0.params.cartWrite s0.mode a.toNat 0xC001 = false) ∧
    (∀ a ∈ storeAddrs .ld_mHL_A (s0.setHl 0xFF40), storeReach s0.params.cartWrite s0.mode a.toNat 0xFF42 = false) ∧
    (∀ a ∈ storeAddrs .push_BC s0, storeReach s0.params.cartWrite s0.mode a.toNat 0xFFFE = false) :=
  ⟨by decide, s0_banksInv, exists_next (by decide),
    by rw [show storeAddrs .ld_mHL_A (s0.setHl 0xC000) = [0xC000] from rfl, List.forall_mem_singleton]; decide,
    by rw [show storeAddrs .ld_mHL_A (s0.setHl 0xFF40) = [0xFF40] from rfl, List.forall_mem_singleton]; decide,
    by
      rw [show storeAddrs .push_BC s0 = [0xFFFD, 0xFFFC] from rfl, List.forall_mem_cons, List.forall_mem_singleton]
      exact ⟨by decide, by decide⟩⟩

theorem witness_RegisterFrame :
    (R8.c ≠ .mHL ∧ R8.c ≠ .b ∧ R8.c ≠ .a ∧ R8.c ≠ .h ∧ R8.c ≠ .l ∧ R8.e ≠ .b ∧ R8.e ≠ .c ∧ R8.b ≠ .d ∧ R8.b ≠ .e) ∧
    (∃ t, exec (mkLd .b .a) s0 = .next t) ∧ (∃ t, exec (mkLoadA .hlInc) s0 = .next t) ∧
    (∃ t, exec (mkStoreA .hlDec) (s0.setHl 0xC000) = .next t) ∧ (∃ t, exec .daa s0 = .next t) ∧
    (∃ t, exec (mkInc8 .mHL) (s0.setHl 0xC000) = .next t) ∧ (∃ t, exec (mkAddHl .sp) s0 = .next t) ∧
    (∃ t, exec (mkLdPairImm .sp 0) s0 = .next t) ∧ (∃ t, exec (mkPush .af) s0 = .next t) ∧
    (∃ t, exec (mkPop .hl) (s0.setSp 0xC000) = .next t) ∧ (∃ t, exec (mkSet 7 .mHL) (s0.setHl 0xC000) = .next t) ∧
    (∃ t, exec (.call_a16 0x2000) s0 = .next t) ∧ (∃ t, exec .halt s0 = .next t) :=
  ⟨by decide, exists_next (by decide), exists_next (by decide), exists_next (by decide), exists_next (by decide),
    exists_next (by decide), exists_next (by decide), exists_next (by decide), exists_next (by decide),
    exists_next (by decide), exists_next (by decide), exists_next (by decide), exists_next (by decide)⟩

theorem witness_FlagAndControlFrame :
    (∃ t, exec .ld_A_mC (s0.setC 0x0F) = .next t) ∧ (∃ t, exec (mkPop .bc) (s0.setSp 0xC000) = .next t ∧ R16Stk.bc ≠ .af) ∧
    (Instr.nop ≠ .ei ∧ Instr.nop ≠ .reti ∧ Instr.nop ≠ .di ∧ Instr.nop ≠ .halt ∧ ∀ pad, Instr.nop ≠ .stop pad) ∧
    (∃ t, exec .nop booting = .next t ∧ t.banks.bootRomEnabled = true) :=
  ⟨⟨_, rfl⟩, ⟨_, rfl, by decide⟩, ⟨by decide, by decide, by decide, by decide, fun pad => Instr.noConfusion⟩, ⟨_, rfl, rfl⟩⟩

theorem witness_DecodeOfEncodeIsTheInstruction :
    (Instr.jp_a16 0xFFFF).wellFormed = true ∧ Instr.jp_a16 0xFFFF ≠ .prefix_CB ∧ (Instr.unknown 0xFD).wellFormed = true := by
  decide

theorem witness_DecodedBytesAreTheEncoding :
    decode [0xFE, 0x90, 0x00] = .ok (.cp_d8 0x90, [0x00]) ∧ decode [0xFD] = .ok (.unknown 0xFD, []) :=
  ⟨rfl, rfl⟩

theorem witness_LengthFromFirstByte :
    decode [0x00] = .ok (.nop, []) ∧ Instr.nop ≠ .prefix_CB ∧ decode [0xCB, 0xFF] = .ok (.set_7_A, []) ∧
    decode [0xC3, 0xFF, 0xFF] = .ok (.jp_a16 0xFFFF, []) :=
  ⟨rfl, by decide, rfl, rfl⟩

/-- The ranges of the statement, each at both ends: the boot ROM mapped, or not and the cartridge loaded, with its RAM. -/
theorem witness_BusReadByRegion :
    booting.banks.bootRomEnabled = true ∧ booting.cartLoaded = true ∧ s0.banks.bootRomEnabled = false ∧ s0.cartLoaded = true ∧
    s0.params.cartRamPresent = true ∧ busRead 0x0000 booting = .ok (booting.mem.bootRom.read 0x0000) booting ∧
    busRead 0x00FF booting = .ok (booting.mem.bootRom.read 0x00FF) booting ∧
    busRead 0x0100 booting = .ok (booting.mem.cartRom0.read 0x0100) booting ∧
    busRead 0x3FFF s0 = .ok (s0.mem.cartRom0.read 0x3FFF) s0 ∧ busRead 0x4000 s0 = .ok (s0.mem.cartRomX.read 0x0000) s0 ∧
    busRead 0x7FFF s0 = .ok (s0.mem.cartRomX.read 0x3FFF) s0 ∧ busRead 0xBFFF s0 = .ok (s0.mem.cartRam.read 0x1FFF) s0 ∧
    busRead 0xFEFF s0 = .ok s0.params.gapReadValue s0 ∧ (0xC000 ≤ 0xDDFF ∧ (0xDDFF : Nat) ≤ 0xDDFF) ∧
    s0.banks.cart.ramOn = true ∧ banked.banks.cart.ramOn = true ∧
    busRead 0x7FFF banked = .ok (banked.mem.cartRomX.read (cartRomSize - 1)) banked ∧
    busRead 0xA000 banked = .ok (banked.mem.cartRam.read (cartRamSize - 0x2000)) banked :=
  ⟨rfl, rfl, rfl, rfl, rfl, rfl, rfl, rfl, rfl, rfl, rfl, rfl, rfl, by decide, rfl, rfl, rfl, rfl⟩

theorem witness_FatalBusAccesses :
    (0x10000 ≤ 0x10000 ∧ busRead 0x10000 s0 = .fatal (s0.setFault (.outOfRange 0x10000))) ∧
    (noCart.cartLoaded = false ∧ busRead 0x0000 noCart = .fatal (noCart.setFault (.notAvailable 0x0000)) ∧
      busWrite 0xBFFF 0x00 noCart = .fatal (noCart.setFault (.notAvailable 0xBFFF))) ∧
    (booting.banks.bootRomEnabled = true ∧ busWrite 0x00FF 0x00 booting = .fatal (booting.setFault (.notWritable 0x00FF))) ∧
    (booting.params.cartWrite = .fatal ∧ busWrite 0x0100 0x00 booting = .fatal (booting.setFault (.notWritable 0x0100))) ∧
    (s0.params.cartWrite = .fatal ∧ busWrite 0x7FFF 0x00 s0 = .fatal (s0.setFault (.notWritable 0x7FFF))) ∧
    (∃ t, busWrite 0x8000 0x00 noCart = .ok () t) ∧ (∃ t, busWrite 0xFFFF 0x00 noCart = .ok () t) ∧
    hostRead (-1) s0 = .fatal (s0.setFault (.outOfRange (-1))) ∧
    (banked.cartLoaded = true ∧ banked.params.cartWrite = .hook ∧ banked.banks.bootRomEnabled = false) ∧
    (let s : State := { s0 with params := { s0.params with cartWrite := .consumed } }
     s.cartLoaded = true ∧ s.params.cartWrite = .consumed ∧ busWrite 0x0000 0x12 s = .ok () s ∧ busWrite 0x7FFF 0x12 s = .ok () s) :=
  ⟨⟨by decide, rfl⟩, ⟨rfl, rfl, rfl⟩, ⟨rfl, rfl⟩, ⟨rfl, rfl⟩, ⟨rfl, rfl⟩, ⟨_, rfl⟩, ⟨_, rfl⟩, rfl, ⟨rfl, rfl, rfl⟩,
    ⟨rfl, rfl, rfl, rfl⟩⟩

/-- Which way a bank controller's hook answers is open: whatever it answers, one of the statement's two clauses applies. -/
theorem witness_FatalBusAccesses_hook :
    Config.cartHook banked.banks.cart 0x2000 0x01 = none ∨ ∃ w, Config.cartHook banked.banks.cart 0x2000 0x01 = some w := by
  cases Config.cartHook banked.banks.cart 0x2000 0x01
  · exact .inl rfl
  · exact .inr ⟨_, rfl⟩

theorem witness_ReadsHaveNoSideEffect :
    (∃ v t, busRead 0xFF44 s0 = .ok v t) ∧ (∃ v, busRead 0xFF10 s0 = .ok v s0.drawFree) ∧
    (∃ v, busRead 0xFF3F s0 = .ok v s0.drawFree) ∧ (∃ t, busRead 0x10000 s0 = .fatal t) :=
  ⟨⟨_, _, rfl⟩, ⟨_, rfl⟩, ⟨_, rfl⟩, ⟨_, rfl⟩⟩

theorem witness_WriteThenReadRoundTrip :
    Memory.wf s0.mem ∧ s0.BanksInv ∧ s0.mode = .dmg ∧ (∀ a ∈ [0x8000, 0xBFFF, 0xE000, 0xFE9F, 0xFF80, 0xFFFE], s0.isMemory a) ∧
    (∃ t, busWrite 0x8000 0x5A s0 = .ok () t) ∧ (∃ t, busWrite 0xFE9F 0x5A s0 = .ok () t) ∧
    (∃ t, busWrite 0xFF80 0x5A s0 = .ok () t) ∧ (∃ t, busWrite 0xFFFE 0x5A s0 = .ok () t) ∧
    (∃ t, busWrite (0xFF00 + 0x01) 0x5A s0 = .ok () t) ∧ (∃ t, busWrite (0xFF00 + 0x7F) 0x5A s0 = .ok () t) ∧
    (∃ t, busWrite (0xFF00 + 0x55) 0x5A s0 = .ok () t) :=
  ⟨by decide, s0_banksInv, rfl, by decide, ⟨_, rfl⟩, ⟨_, rfl⟩, ⟨_, rfl⟩, ⟨_, rfl⟩, ⟨_, rfl⟩, ⟨_, rfl⟩, ⟨_, rfl⟩⟩

theorem witness_IoRegisterReads_and_Writes :
    s0.mode = .dmg ∧ s0c.mode = .cgb ∧ 0x55 ∈ [0x4D, 0x4F, 0x55, 0x68, 0x69, 0x6A, 0x6B, 0x70] ∧
    (0x10 ≤ 0x10 ∧ 0x10 ≤ 0x3F) ∧ 0x10 ≤ 0x3F ∧ 0x3F ≤ 0x3F ∧
    ∀ off ∈ [0x01, 0x42, 0x7F], off ≤ 0x7F ∧ ¬(0x10 ≤ off ∧ off ≤ 0x3F) ∧
      off ∉ [0x00, 0x04, 0x05, 0x06, 0x07, 0x0F, 0x40, 0x41, 0x44, 0x45, 0x46, 0x4D, 0x4F, 0x50, 0x55, 0x68, 0x69, 0x6A, 0x6B,
        0x70] := by
  decide

theorem witness_TimerStepCounts :
    (let t : Timer := { counter := 3, div := 0, tima := 0, tma := 0, running := true, rate := 1 }
     t.running = true ∧ (t.counter.toNat + 1) % 256 % 4 = 0 ∧ t.tima ≠ 0xFF) ∧
    (let t : Timer := { counter := 0xFF, div := 0, tima := 0xFF, tma := 0, running := true, rate := 0 }
     t.running = true ∧ (t.counter.toNat + 1) % 256 % 256 = 0 ∧ t.tima = 0xFF) ∧ s0.timer.running = false := by
  decide

theorem witness_DivWriteShiftsTimerPhase :
    (withTimer { counter := 0, div := 0, tima := 0, tma := 0, running := true, rate := 3 }).timer.running = true ∧
    s0.timer.running = false := by
  decide

theorem witness_RaiseAndPress :
    (hostPress 7 s0).buttons.getLsbD 7 = true ∧ s0.buttons.getLsbD 0 = false := by
  decide

theorem witness_DispatchTakesLowestSource :
    (s0.cpu.ime = false) ∧ (withInts true 0x04 0x1B s0).ints.enabled &&& (withInts true 0x04 0x1B s0).ints.pending = 0 ∧
    (let s := withInts true 0x1F 0x11 s0
     s.cpu.ime = true ∧ s.ints.enabled.getLsbD 0 = true ∧ s.ints.pending.getLsbD 0 = true ∧ s.cpu.runState ≠ .reset ∧
     ∃ t, push16 s.cpu.pc { s with ints := { s.ints with pending := 0x10 }, cpu := { s.cpu with ime := false } } = .ok () t) ∧
    (let s := (withInts true 0x10 0x1F s0).setSp 0x0001
     s.cpu.ime = true ∧ s.ints.enabled.getLsbD 4 = true ∧ s.ints.pending.getLsbD 4 = true ∧
     (∀ j : Fin 4, s.ints.enabled.getLsbD j.val = false) ∧ s.cpu.runState ≠ .reset ∧
     ∃ t, push16 s.cpu.pc { s with ints := { s.ints with pending := 0x0F }, cpu := { s.cpu with ime := false } } = .fatal t) :=
  ⟨rfl, by decide, ⟨rfl, rfl, rfl, by decide, _, rfl⟩, ⟨rfl, rfl, rfl, by decide, by decide, _, rfl⟩⟩

theorem witness_HandlerEntryState :
    Memory.wf (withInts true 0x01 0x01 s0).mem ∧ (withInts true 0x01 0x01 s0).cpu.runState ≠ .reset ∧
    s0.BanksInv ∧ (∀ a ∈ [0xFFFD, 0xFFFC, 0xC001, 0xC000], (withInts true 0x01 0x01 s0).isMemory a) ∧
    (∃ t, interruptDispatch ((withInts true 0x01 0x01 s0).setSp 0xFFFE) = .ok 5 t) ∧
    (∃ t, interruptDispatch ((withInts true 0x01 0x01 s0).setSp 0xC002) = .ok 5 t) :=
  ⟨by decide, by decide, s0_banksInv, by decide, ⟨_, rfl⟩, ⟨_, rfl⟩⟩

theorem witness_CpuStepOrder :
    (s0.cpu.runState = .running ∧ 0 < (s0.setPending 1).cpu.pendingCycles ∧ s0.cpu.pendingCycles = 0) ∧
    (∃ t, interruptDispatch (timerStep (withInts true 0x01 0x01 s0)) = .ok 5 t) ∧
    (∃ t, interruptDispatch (timerStep ((withInts true 0x01 0x01 s0).setSp 0x0001)) = .fatal t) ∧
    interruptDispatch (timerStep s0) = .ok 0 (timerStep s0) ∧
    (let s := s0.setRunState .stopped
     interruptDispatch (timerStep s) = .ok 0 (timerStep s) ∧ (timerStep s).ints.pending &&& s.params.stopWakeMask = 0) ∧
    (let s := (withInts false 0x00 0x10 s0).setRunState .stopped
     interruptDispatch (timerStep s) = .ok 0 (timerStep s) ∧ (timerStep s).ints.pending &&& s.params.stopWakeMask ≠ 0) ∧
    (let s := (withInts false 0x04 0x10 s0).setRunState .halted
     interruptDispatch (timerStep s) = .ok 0 (timerStep s) ∧ (timerStep s).ints.enabled &&& (timerStep s).ints.pending = 0) ∧
    (let s := (withInts false 0x10 0x10 s0).setRunState .halted
     interruptDispatch (timerStep s) = .ok 0 (timerStep s) ∧ (timerStep s).ints.enabled &&& (timerStep s).ints.pending ≠ 0) :=
  ⟨by decide, ⟨_, rfl⟩, ⟨_, rfl⟩, rfl, ⟨rfl, by decide⟩, ⟨rfl, by decide⟩, ⟨rfl, by decide⟩, ⟨rfl, by decide⟩⟩

theorem witness_OpcodeFetchAndHaltBug :
    ReadsOk s0.cpu.pc s0 ∧ s0.cpu.haltBug = false ∧ (s0.setHaltBug true).cpu.haltBug = true ∧
    (∃ op t, fetchOpcode (s0.setHaltBug true) = .ok op t) ∧ ReadsFatal noCart.cpu.pc noCart :=
  ⟨⟨_, _, rfl⟩, rfl, rfl, ⟨_, _, rfl⟩, ⟨_, rfl⟩⟩

theorem witness_StepRunsTheDecodedInstruction :
    let i : Instr := .call_a16 0x2000
    let s := start [0xCD, 0x00, 0x20]
    i.wellFormed = true ∧ i ≠ .prefix_CB ∧ s.fault = none ∧ s.host = [] ∧ s.doubleSpeed = false ∧ s.cpu.runState = .running ∧
    s.cpu.pendingCycles = 0 ∧ s.cpu.haltBug = false ∧ (timerStep s).cpu.ime = false ∧
    ∀ (k : Nat) (h : k < (encode i).length),
      busRead16 (s.cpu.pc + BitVec.ofNat 16 k) (timerStep s) = .ok (encode i)[k] (timerStep s) :=
  ⟨rfl, by decide, rfl, rfl, rfl, rfl, rfl, rfl, rfl, fun k h =>
    match k, h with
    | 0, _ => rfl
    | 1, _ => rfl
    | 2, _ => rfl⟩

theorem witness_TickOrderAndDoubleSpeed :
    State.reset.fault = none ∧ State.reset.host = [] ∧ State.reset.doubleSpeed = false ∧
    { s0c with doubleSpeed := true }.fault = none ∧ { s0c with doubleSpeed := true }.doubleSpeed = true :=
  ⟨rfl, rfl, rfl, rfl, rfl⟩

/-- A schedule whose moves all run, and two with a fatal poke: outside the address space on either side. -/
theorem witness_TickOrderAndDoubleSpeed_host :
    (let s := s0.setHost [[.press 0, .poke 0xC000 0x5A, .release 0], [.press 7]]
     ∃ t, hostTurn s = .ok () t ∧ t.host = [[.press 7]] ∧ t.peek 0xC000 = some 0x5A ∧ t.ints.pending = 0x10) ∧
    (let s := s0.setHost [[.poke (-1) 0x00, .press 0]]
     ∃ t, hostTurn s = .fatal t ∧ step s = .next t ∧ t.buttons = 0 ∧ t.fault = some (.outOfRange (-1))) ∧
    (let s := s0.setHost [[.poke 0x10000 0x00]]
     ∃ t, hostTurn s = .fatal t ∧ step s = .next t ∧ t.fault = some (.outOfRange 0x10000)) :=
  ⟨⟨_, rfl, rfl, rfl, rfl⟩, ⟨_, rfl, rfl, rfl, rfl⟩, ⟨_, rfl, rfl, rfl⟩⟩

theorem witness_FaultsAndFixedParts :
    (s0.setFault (.outOfRange 0x10000)).fault ≠ none ∧ (∃ t, step (s0.setFault (.outOfRange 0x10000)) = .next t) ∧
    (∃ t, step booting = .next t ∧ t.banks.bootRomEnabled = true) :=
  ⟨by decide, ⟨_, rfl⟩, ⟨_, rfl, rfl⟩⟩

/-- An immediate transfer in flight. -/
def copying (src : Word) (ticks copied : Nat) (s : State) : State :=
  s.setOamDma { active := true, src := src, ticks := ticks, copied := copied }

theorem witness_ImmediateTransferStep :
    s0.hdma.active = false ∧ s0.oamDma.active = false ∧ (copying 0xC100 0 0 s0).oamDma.active = true ∧
    (∃ b t, busRead (0xC100 + 0) (copying 0xC100 2 0 s0) = .ok b t) ∧ (∃ b t, busRead (0xC100 + 158) (copying 0xC100 160 158 s0) = .ok b t) ∧
    (∃ b t, busRead (0xC100 + 159) (copying 0xC100 161 159 s0) = .ok b t) ∧
    (∃ t, busRead (0x0000 + 0) (copying 0x0000 2 0 noCart) = .fatal t) :=
  ⟨rfl, rfl, rfl, ⟨_, _, rfl⟩, ⟨_, _, rfl⟩, ⟨_, _, rfl⟩, ⟨_, rfl⟩⟩

theorem witness_ImmediateTransferCopiesThePage :
    (let s := copying 0x0000 0 0 s0
     Memory.wf s.mem ∧ s.hdma.active = false ∧
     s.oamDma = { active := true, src := (0x00 : Byte) ++ (0 : Byte), ticks := 0, copied := 0 } ∧ (0x00 : Byte).toNat < 0xFE) ∧
    (let s := copying 0xFD00 0 0 s0
     s.oamDma = { active := true, src := (0xFD : Byte) ++ (0 : Byte), ticks := 0, copied := 0 } ∧ (0xFD : Byte).toNat < 0xFE ∧
     s.cartLoaded = true ∧ s.cartRamMapped = true) := by
  decide

/-- The block a write of `v` to 0xFF55 names is valid, as the statement says it. -/
abbrev blockValid (v : Byte) (s : State) : Prop :=
  let src : Word := ((s.ioRaw 0x51).setWidth 16 <<< 8 ||| (s.ioRaw 0x52).setWidth 16) &&& 0xFFF0
  let dst : Word := ((s.ioRaw 0x53).setWidth 16 <<< 8 ||| (s.ioRaw 0x54).setWidth 16) &&& 0xFFF0
  let len : Nat := (v.toNat % 128 + 1) * 16
  0x8000 ≤ dst.toNat ∧ dst.toNat + len - 1 ≤ 0x9FFF ∧
    (src.toNat + len - 1 ≤ 0x7FFF ∨ (0xA000 ≤ src.toNat ∧ src.toNat + len - 1 ≤ 0xBFFF))

/-- A gated transfer in flight. -/
def gated (m : HdmaMode) (dst : Word) (copied : Nat) (phase : Bool) (s : State) : State :=
  s.setHdma { active := true, mode := m, src := 0x4000, dst := dst, len := 2048, copied := copied, stopped := false, phase := phase }

theorem witness_GatedTransfer_write :
    s0c.mode = .cgb ∧ s0c.hdma.active = false ∧ ¬blockValid 0x00 s0c ∧ blockValid 0x00 (withHdma 0x7F 0xF0 0x80 0x00) ∧
    blockValid 0x00 (withHdma 0xBF 0xF0 0x9F 0xF0) ∧ blockValid 0x7F (withHdma 0xA0 0x00 0x80 0x00) ∧
    (let s := gated .hblank 0x8000 0 false s0c
     s.mode = .cgb ∧ s.hdma.active = true ∧ s.hdma.stopped = false ∧ s.hdma.mode = .hblank ∧ (0x7F : Byte).toNat < 128) := by
  decide

theorem witness_GatedTransfer_step :
    (let s := gated .hblank 0x8000 0 false s0c
     s.setVideo { s.video with mode := .vblank } ≠ s ∧ s.hdma.mode = .hblank ∧
     (s.setVideo { s.video with mode := .vblank }).video.mode ≠ .hblank ∧ s.video.mode = .hblank ∧ s.hdma.phase = false ∧
     s.hdma.copied < s.hdma.len ∧ s.hdma.len ≤ 2048) ∧
    (let s := gated .general 0x8000 0 true s0c
     s.hdma.phase = true ∧ 0x8000 ≤ s.hdma.dst.toNat + s.hdma.copied ∧ s.hdma.dst.toNat + s.hdma.copied ≤ 0x9FFF ∧
     ∃ b t, busRead 0x4000 (s.setHdma { s.hdma with phase := false }) = .ok b t) ∧
    (let s := gated .general 0x9800 2047 true s0c
     s.hdma.dst.toNat + s.hdma.copied = 0x9FFF ∧ s.hdma.copied + 1 = s.hdma.len ∧
     ∃ b t, busRead 0x47FF (s.setHdma { s.hdma with phase := false }) = .ok b t) ∧
    (let s := gated .general 0x8000 0 true noCart
     s.hdma.phase = true ∧ ∃ t, busRead (s.hdma.src.toNat + s.hdma.copied) (s.setHdma { s.hdma with phase := false }) = .fatal t) :=
  ⟨by decide, ⟨rfl, by decide, by decide, _, _, rfl⟩, ⟨by decide, rfl, _, _, rfl⟩, ⟨rfl, _, rfl⟩⟩

/-- The Video unit in a given place of its table, the LCD on. -/
def scanning (line t delay : Nat) (m : VideoMode) : State :=
  s0.setVideo { s0.video with lcdc := Lcdc.ofByte 0x80, line := line, lineT := t, enableDelay := delay, mode := m }

theorem witness_LcdPowerAndDelay :
    s0.video.lcdc.lcdOn = false ∧ (0x80 : Byte).getLsbD 7 = true ∧ (scanning 0 0 61 .hblank).video.lcdc.lcdOn = true ∧
    (0x7F : Byte).getLsbD 7 = false ∧ (scanning 0 0 61 .hblank).video.enableDelay = 61 ∧
    (scanning 0 0 61 .hblank).video.line = 0 ∧ (scanning 0 0 61 .hblank).video.mode = .hblank := by
  decide

/-- The line after 143 and the lines of the vertical blank, at their last cycle; LYC at both outcomes of the compare. -/
theorem witness_ModeEntryAndLineCompare :
    (let s := scanning 143 113 0 .hblank
     s.video.lcdc.lcdOn = true ∧ s.video.enableDelay = 0 ∧ s.video.lineT = 113 ∧ s.video.line = 143) ∧
    (let s := scanning 144 113 0 .vblank
     s.video.lineT = 113 ∧ 144 ≤ s.video.line ∧ s.video.line < 153) ∧
    (let s := scanning 152 113 0 .vblank
     s.video.lineT = 113 ∧ 144 ≤ s.video.line ∧ s.video.line < 153) ∧
    Memory.wf s0.mem ∧ s0.video.line = (0x00 : Byte).toNat ∧ s0.video.line ≠ (0x01 : Byte).toNat := by
  decide

theorem witness_FrameTakes17556Steps :
    (let s := scanning 0 0 0 .oamSearch
     s.video.lcdc.lcdOn = true ∧ s.video.enableDelay = 0 ∧ s.video.line = 0 ∧ s.video.lineT = 0 ∧ s.video.mode = .oamSearch) := by
  decide

theorem witness_FrontBufferIsStable :
    (∃ t, step s0 = .next t ∧ t.video.frontSel = s0.video.frontSel) ∧
    (∃ t, step (scanning 153 113 0 .vblank) = .next t ∧ t.video.frontSel ≠ (scanning 153 113 0 .vblank).video.frontSel) :=
  ⟨⟨_, rfl, rfl⟩, ⟨_, rfl, by decide⟩⟩

theorem witness_RenderLineWritesOneRow :
    Frame.wf s0.params s0.video.back ∧ 0 < s0.params.screenH ∧ 143 < s0.params.screenH ∧ 159 < s0.params.screenW ∧
    (0 : Nat) ≠ 143 := by
  decide

theorem witness_SpritesAndPriority :
    (selectSprites (entry0 16 8 1 0 (picture 0x93 .dmg)) 0).length = 1 ∧
    (selectSprites (entry0 16 8 1 0 (picture 0x93 .dmg)) 7).length = 1 ∧
    (selectSprites (entry0 16 8 1 0 (picture 0x97 .dmg)) 15).length = 1 ∧
    (picture 0x91 .dmg).video.lcdc.objEn = false ∧ (picture 0x93 .cgb).mode = .cgb ∧ (picture 0x93 .cgb).video.lcdc.objEn = true ∧
    (picture 0x92 .cgb).video.lcdc.bgEn = false ∧ (picture 0x92 .dmg).mode = .dmg ∧ (picture 0x92 .dmg).video.lcdc.winEn = false ∧
    (let s := entry0 16 8 1 0x80 (picture 0x93 .dmg)
     spritePixel s 0 8 (selectSprites s 0) = none ∧ (spritePixel s 0 0 (selectSprites s 0)).isSome = true ∧
     (bgWinPixel s 0 0).idx ≠ 0 ∧ (bgWinPixel s 0 4).idx = 0) := by
  decide

/-- Two sprites of equal x, the second under the first, in legacy mode: the selection keeps OAM order. -/
theorem witness_SpritesAndPriority_stable :
    (let s := picture 0x93 .dmg
     let s := s.setMem { s.mem with oam := placeAt 0 [16, 9, 1, 0, 16, 8, 2, 0, 16, 8, 3, 0] [] }
     s.mode = .dmg ∧ s.video.lcdc.objEn = true ∧ (selectSprites s 0).map (·.tile) = [2, 3, 1]) := by
  decide

/-- The window on and off, the background off, both modes; a sprite at its first and last column and row, and beside it. -/
theorem witness_TilesAndColours :
    (let s := put 0xFF4B 0x0B (picture 0xF1 .dmg)
     s.mode = .dmg ∧ s.video.lcdc.winEn = true ∧ (s.ioRaw 0x4A).toNat ≤ 0 ∧ ((s.ioRaw 0x4B).toNat : Int) - 7 ≤ 4 ∧
     ¬((s.ioRaw 0x4B).toNat : Int) - 7 ≤ 3 ∧ s.video.lcdc.bgEn = true) ∧
    (picture 0x92 .dmg).video.lcdc.bgEn = false ∧ (picture 0x92 .dmg).video.lcdc.winEn = false ∧
    (picture 0x91 .cgb).mode = .cgb ∧ (0x8000 ≤ 0x9FF0 ∧ 7 ≤ 7) ∧
    (let e := spriteEntry (placeAt 0 [16, 8, 1, 0] []) 0
     ∀ x ∈ [0, 7], (e.x.toNat : Int) - 8 ≤ x ∧ (x : Int) < (e.x.toNat : Int) - 8 + 8 ∧ (e.y.toNat : Int) - 16 ≤ x ∧
       (x : Int) < (e.y.toNat : Int) - 16 + 8) ∧
    spriteIndex (picture 0x93 .dmg) (spriteEntry (placeAt 0 [16, 8, 1, 0] []) 0) 0 8 = none := by
  decide

/-- The three flags (R6, R532, D43), and a launch with no cartridge. -/
theorem test_mode_from_flag :
    (∀ p ∈ [(ModeFlag.legacyOnly, Mode.dmg), (.legacyCompatible, .cgb), (.colourOnly, .cgb)],
      (State.launch { Launch.default with
        cartridge := some { flag := p.1, rom0 := [], romX := [], visible := .initial } }).mode = p.2) ∧
    (State.launch { Launch.default with cartridge := none, modeUnloaded := .cgb }).mode = .cgb := by
  decide

theorem witness_ResetValues :
    (∃ c, Launch.default.cartridge = some c ∧ c.flag = .legacyOnly) ∧ { Launch.default with cartridge := none }.cartridge = none :=
  ⟨⟨_, rfl, rfl⟩, rfl⟩

theorem witness_FirstStepResetsToRunning :
    Launch.default.bootRom = none ∧ Launch.default.params.powerUpDmg.ioWrites = [] ∧
    { Launch.default with bootRom := some [] }.bootRom ≠ none := by
  decide

theorem witness_LaunchSatisfiesInvariant :
    Bytes.wf 256 [(0xFF, 0x31)] ∧ Bytes.wf 16384 [(0x0100, 0x3C), (0x3FFF, 0x01)] ∧
    Bytes.wf cartRomSize [(0x0000, 0x3C), (0x3FFFFFFF, 0x01)] := by
  decide

/-- The state after reset satisfies the invariant and has a step. -/
theorem witness_StepKeepsInvariant : State.reset.Inv ∧ ∃ t, step State.reset = .next t :=
  ⟨{ mem := by decide
     cpu := ⟨by decide, by decide, by decide, by decide⟩
     banks := ⟨by decide, by decide, by decide⟩
     oamDma := ⟨by decide, by decide, by decide, by decide⟩
     hdma := ⟨by decide, by decide, by decide, by decide, by decide⟩
     video := ⟨by decide, by decide, by decide, by decide, by decide, by decide, by decide, by decide, by decide, by decide,
       by decide, by decide, by decide⟩
     io := ⟨by decide, by decide, by decide⟩ }, _, rfl⟩

end Sys2Proof.Tests
end

/-! PROOFS. Every step answers a next state, and none changes the fixed parts or maps the boot ROM back: one lemma for each
operation a step is made of, from the Bus accesses up. Then the state before the first tick. -/

namespace Sys2Proof.Machine

/-! ### The relation every step keeps -/

/-- From `s` to `t` the fixed parts are the same, and the boot ROM is not mapped back (R116). -/
structure PartsKept (s t : State) : Prop where
  fixed : FixedKept s t
  boot : t.banks.bootRomEnabled = true → s.banks.bootRomEnabled = true

theorem PartsKept.refl (s : State) : PartsKept s s := ⟨.refl s, id⟩

theorem PartsKept.trans {s t u : State} (h : PartsKept s t) (h' : PartsKept t u) : PartsKept s u :=
  ⟨h.fixed.trans h'.fixed, h.boot ∘ h'.boot⟩

/-- An update of any of the other fields. -/
theorem PartsKept.update (s : State) (cpu : Cpu) (ints : Interrupts) (timer : Timer) (oamDma : OamTransfer)
    (hdma : HdmaTransfer) (video : Video) (buttons : BitVec 8) (fault : Option Fault) (host : List (List HostMove)) :
    PartsKept s { s with
      cpu := cpu, ints := ints, timer := timer, oamDma := oamDma, hdma := hdma, video := video, buttons := buttons
      fault := fault, host := host } :=
  ⟨⟨rfl, rfl, rfl, rfl, rfl, rfl, rfl, rfl⟩, id⟩

theorem BusKept.partsKept {s t : State} (h : BusKept s t) : PartsKept s t := ⟨h.fixed, h.boot⟩

theorem busRead_partsKept (a : Nat) (s : State) : PartsKept s (busRead a s).state := (busRead_kept a s).partsKept

theorem busWrite_partsKept (a : Nat) (v : Byte) (s : State) : PartsKept s (busWrite a v s).state :=
  (busWrite_kept a v s).partsKept

theorem Reach.partsKept {P : Cpu → Cpu → Prop} {s t : State} (h : Reach P s t) : PartsKept s t := by
  obtain ⟨hfixed, -, -, hboot⟩ := h.kept
  exact ⟨hfixed, hboot⟩

/-- An operation in two parts keeps what both keep, however the first one ends. -/
theorem Res.bind_partsKept {α β : Type} {r : Res α} {f : α → State → Res β} {s : State} (h : PartsKept s r.state)
    (hf : ∀ v t, PartsKept t (f v t).state) : PartsKept s (r.bind f).state := by
  cases r with
  | ok v t => exact h.trans (hf v t)
  | fatal t => exact h

/-- The outcome is a next state, and up to it the parts are kept. -/
def NextKept (s : State) (o : Out) : Prop := ∃ t, o = .next t ∧ PartsKept s t

theorem NextKept.after {s t : State} {o : Out} (h : NextKept t o) (hst : PartsKept s t) : NextKept s o := by
  obtain ⟨u, ho, htu⟩ := h
  exact ⟨u, ho, hst.trans htu⟩

/-- Two components in a row, the second left out after a fatal error (R350). -/
theorem NextKept.goOn {s : State} {o : Out} {f : State → Out} (h : NextKept s o) (hf : ∀ t, NextKept t (f t)) :
    NextKept s (goOn o f) := by
  obtain ⟨t, rfl, hst⟩ := h
  show NextKept s (if t.fault.isSome then .next t else f t)
  split
  · exact ⟨t, rfl, hst⟩
  · exact (hf t).after hst

/-! ### The CPU step -/

theorem timerStep_partsKept (s : State) : PartsKept s (timerStep s) := by
  unfold timerStep
  dsimp only
  split
  · split
    · exact .update ..
    · exact .update ..
  · exact .update ..

theorem applyIoWrites_partsKept (l : List (BitVec 7 × Byte)) (s : State) : PartsKept s (applyIoWrites l s).state := by
  induction l generalizing s with
  | nil => exact .refl s
  | cons w l ih => exact Res.bind_partsKept (ioWrite_effect _ _ s).kept.partsKept fun _ => ih

theorem loadPowerUp_partsKept (p : PowerUp) (s : State) : PartsKept s (loadPowerUp p s) := by
  refine ⟨?_, ?_⟩
  · constructor <;> simp [loadPowerUp]
  · simp [loadPowerUp]

theorem resetToRunning_partsKept (s : State) : PartsKept s (resetToRunning s).state := by
  unfold resetToRunning
  split
  · exact .update ..
  · exact Res.bind_partsKept ((loadPowerUp_partsKept _ s).trans (applyIoWrites_partsKept _ _)) fun _ _ => .update ..

theorem cpuBegin_partsKept (s : State) : PartsKept s (cpuBegin s).state := by
  unfold cpuBegin
  split
  · exact Res.bind_partsKept (resetToRunning_partsKept s) fun _ _ => .update ..
  · exact timerStep_partsKept s

theorem takeInterrupt_partsKept (k : IntSource) (s : State) : PartsKept s (takeInterrupt k s).state := by
  have hclear : PartsKept s ((s.setIF (s.ints.pending &&& ~~~k.mask)).setIme false) := .update ..
  refine Res.bind_partsKept (hclear.trans (from_push16 _ _).reach.partsKept) fun _ t => ?_
  dsimp only
  split <;> exact .update ..

theorem interruptDispatch_partsKept (s : State) : PartsKept s (interruptDispatch s).state := by
  unfold interruptDispatch
  split
  · split
    · exact takeInterrupt_partsKept _ s
    · exact .refl s
  · exact .refl s

/-- The state the part of a CPU step before its fetch ends in. -/
def Prologue.state : Prologue → State
  | .done s => s
  | .fetch s => s

theorem waitStates_partsKept (s : State) : PartsKept s (waitStates s).state := by
  unfold waitStates
  split
  · split
    · exact .refl s
    · exact .update ..
  · show PartsKept s (if s.dispatchable = 0 then s else s.setRunState .running)
    split
    · exact .refl s
    · exact .update ..
  · exact .refl s
  · exact .refl s

theorem afterPending_partsKept (s : State) : PartsKept s (afterPending s).state := by
  have h := interruptDispatch_partsKept s
  unfold afterPending
  cases hr : interruptDispatch s with
  | fatal t => rw [hr] at h; exact h
  | ok n t =>
    rw [hr] at h
    dsimp only
    split
    · exact h.trans (.update ..)
    · exact h.trans (waitStates_partsKept t)

theorem cpuPrologue_partsKept (s : State) : PartsKept s (cpuPrologue s).state := by
  have h := cpuBegin_partsKept s
  unfold cpuPrologue
  cases hr : cpuBegin s with
  | fatal t => rw [hr] at h; exact h
  | ok v t =>
    rw [hr] at h
    dsimp only
    split
    · exact h.trans (.update ..)
    · exact h.trans (afterPending_partsKept t)

theorem fetchOpcode_partsKept (s : State) : PartsKept s (fetchOpcode s).state := by
  refine Res.bind_partsKept (busRead_partsKept _ s) fun op t => ?_
  show PartsKept t (if t.cpu.haltBug then _ else _)
  split <;> exact .update ..

theorem operandBytes_partsKept (n : Nat) (s : State) : PartsKept s (operandBytes n s).state := by
  induction n generalizing s with
  | zero => exact .refl s
  | succ n ih =>
    exact Res.bind_partsKept (from_imm8 s).reach.partsKept fun _ t => Res.bind_partsKept (ih t) fun _ u => .refl u

theorem fetch_partsKept (s : State) : PartsKept s (fetch s).state :=
  Res.bind_partsKept (fetchOpcode_partsKept s) fun _ t => Res.bind_partsKept (operandBytes_partsKept _ t) fun _ u => .refl u

theorem exec_nextKept (i : Instr) (s : State) : NextKept s (exec i s) := by
  obtain ⟨t, ht, hreach⟩ := exec_reach i s
  exact ⟨t, ht, hreach.partsKept⟩

theorem fetchExecute_nextKept (s : State) : NextKept s (fetchExecute s) := by
  have h := fetch_partsKept s
  unfold fetchExecute
  cases hr : fetch s with
  | ok i t => rw [hr] at h; exact (exec_nextKept i t).after h
  | fatal t => rw [hr] at h; exact ⟨t, rfl, h⟩

theorem cpuStep_nextKept (s : State) : NextKept s (cpuStep s) := by
  have h := cpuPrologue_partsKept s
  unfold cpuStep
  cases hr : cpuPrologue s with
  | done t => rw [hr] at h; exact ⟨t, rfl, h⟩
  | fetch t => rw [hr] at h; exact (fetchExecute_nextKept t).after h

theorem cpuSteps_nextKept (s : State) : NextKept s (cpuSteps s) := by
  unfold cpuSteps
  split
  · exact (cpuStep_nextKept s).goOn cpuStep_nextKept
  · exact cpuStep_nextKept s

/-! ### The Transfer Engine, the Video unit and the host -/

/-- One byte moved through the Bus, then an update of the moving agent's own state. -/
theorem moveByte_partsKept {src : Nat} {dst : State → Nat} {f : State → State} (hf : ∀ t, PartsKept t (f t)) (s : State) :
    PartsKept s ((busRead src s).bind fun b t => (busWrite (dst t) b t).bind fun _ u => .ok () (f u)).state :=
  Res.bind_partsKept (busRead_partsKept _ s) fun _ t => Res.bind_partsKept (busWrite_partsKept _ _ t) fun _ => hf

theorem oamStep_partsKept (s : State) : PartsKept s (oamStep s).state := by
  have hcount : PartsKept s (s.setOamDma { s.oamDma with ticks := s.oamDma.ticks + 1 }) := .update ..
  refine Res.bind_partsKept (hcount.trans ?_) fun _ t => ?_
  · split
    · exact moveByte_partsKept (fun _ => .update ..) _
    · exact .refl _
  · show PartsKept t (if t.oamDma.ticks = 161 then _ else t)
    split
    · exact .update ..
    · exact .refl t

theorem hdmaStep_partsKept (s : State) : PartsKept s (hdmaStep s).state := by
  have hphase : PartsKept s (s.setHdma { s.hdma with phase := false }) := .update ..
  unfold hdmaStep
  split
  · exact .refl s
  · split
    · exact hphase.trans (moveByte_partsKept (fun _ => .update ..) _)
    · exact .update ..

theorem transferStep_partsKept (s : State) : PartsKept s (transferStep s).state := by
  unfold transferStep
  split
  · exact hdmaStep_partsKept s
  · split
    · exact oamStep_partsKept s
    · exact .refl s

theorem peripherals_nextKept (s : State) : NextKept s (peripherals s) := by
  have h := transferStep_partsKept s
  unfold peripherals
  cases hr : transferStep s with
  | ok v t => rw [hr] at h; exact ⟨_, rfl, h.trans (videoOnly_videoStep t).busKept.partsKept⟩
  | fatal t => rw [hr] at h; exact ⟨t, rfl, h⟩

theorem hostMove_partsKept (m : HostMove) (s : State) : PartsKept s (hostMove m s).state := by
  cases m with
  | press k =>
    show PartsKept s (hostPress k s)
    unfold hostPress
    split
    · exact .refl s
    · exact .update ..
  | release k => exact .update ..
  | poke a v =>
    show PartsKept s (hostWrite a v s).state
    unfold hostWrite
    split
    · exact .update ..
    · exact busWrite_partsKept _ v s

theorem hostMoves_partsKept (l : List HostMove) (s : State) : PartsKept s (hostMoves l s).state := by
  induction l generalizing s with
  | nil => exact .refl s
  | cons m l ih => exact Res.bind_partsKept (hostMove_partsKept m s) fun _ => ih

theorem hostTurn_partsKept (s : State) : PartsKept s (hostTurn s).state := by
  unfold hostTurn
  split
  · exact .refl s
  · exact PartsKept.trans (.update ..) (hostMoves_partsKept _ _)

/-! ### The step -/

theorem systemTick_nextKept (s : State) : NextKept s (systemTick s) := by
  unfold systemTick
  split
  · exact ⟨s, rfl, .refl s⟩
  · exact (cpuSteps_nextKept s).goOn peripherals_nextKept

/-- Every step answers a next state and keeps the parts. -/
theorem step_nextKept (s : State) : NextKept s (step s) := by
  have h := hostTurn_partsKept s
  unfold step
  split
  · exact ⟨s, rfl, .refl s⟩
  · cases hr : hostTurn s with
    | ok v t => rw [hr] at h; exact (systemTick_nextKept t).after h
    | fatal t => rw [hr] at h; exact ⟨t, rfl, h⟩

/-- In the fault state the step is the empty one (R47, R350, R561). -/
theorem step_of_fault {s : State} (h : s.fault ≠ none) : step s = .next s :=
  if_pos (Option.isSome_iff_ne_none.mpr h)

/-- Settles O45: `step_nextKept` gives the step and what it keeps, `step_of_fault` the empty step. -/
theorem faultsAndFixedParts : Obligations.FaultsAndFixedParts := by
  refine ⟨⟨fun s => ?_, fun s => step_of_fault, fun s t hstep hfault => ?_⟩, fun s t hstep => ?_⟩
  · obtain ⟨t, ht, -⟩ := step_nextKept s
    exact ⟨t, ht⟩
  · rw [step_of_fault hfault] at hstep
    cases hstep
    rfl
  · obtain ⟨u, hu, hkept⟩ := step_nextKept s
    rw [hstep] at hu
    cases hu
    exact ⟨hkept.fixed, hkept.boot⟩

/-! ### The state before the first tick -/

theorem flagMode_eq_dmg_iff (f : ModeFlag) : flagMode f = .dmg ↔ f = .legacyOnly := by
  cases f <;> decide

/-- `MODE` with a cartridge is that of its flag (R5, R532). -/
theorem launch_mode_of_cartridge {l : Launch} {c : Cartridge} (h : l.cartridge = some c) :
    (State.launch l).mode = flagMode c.flag := by
  show l.mode = flagMode c.flag
  rw [Launch.mode, h]

/-- `MODE` with no cartridge is the launch's own (log entry 24). -/
theorem launch_mode_of_no_cartridge {l : Launch} (h : l.cartridge = none) : (State.launch l).mode = l.modeUnloaded := by
  show l.mode = l.modeUnloaded
  rw [Launch.mode, h]

/-- The windows shown are the cartridge's own (log entry 8). -/
theorem launch_cart {l : Launch} {c : Cartridge} (h : l.cartridge = some c) :
    (State.launch l).banks.cart = c.visible := by
  show (l.cartridge.map (·.visible)).getD .initial = c.visible
  rw [h]
  rfl

/-- A framebuffer with no line listed is `BLANK` everywhere, outside the screen too (R45). -/
theorem Frame.pixel_nil (p : Params) (x y : Nat) : Frame.pixel p [] x y = p.blank := by
  show (List.replicate p.screenW p.blank).getD x p.blank = p.blank
  rw [List.getD_eq_getElem?_getD, List.getElem?_replicate]
  split <;> rfl

/-- Settles O57: field by field, `State.launch` being written out. -/
theorem resetValues : Obligations.ResetValues := by
  intro l
  have hmode (c : Cartridge) (h : l.cartridge = some c) : (State.launch l).mode = .dmg ↔ c.flag = .legacyOnly := by
    rw [launch_mode_of_cartridge h, flagMode_eq_dmg_iff]
  have hpixel (x y : Nat) : Frame.pixel l.params [] x y = l.params.blank := Frame.pixel_nil l.params x y
  exact ⟨rfl, rfl, rfl, rfl, rfl, rfl, rfl, rfl, rfl, fun _ => launch_cart, rfl, hmode, launch_mode_of_no_cartridge,
    fun _ => ⟨rfl, rfl, rfl, rfl, rfl, rfl, rfl, rfl⟩, rfl, rfl, rfl, rfl, rfl, rfl, rfl, rfl, rfl, rfl,
    fun x y => ⟨hpixel x y, hpixel x y⟩, rfl, rfl⟩

end Sys2Proof.Machine

/-! PROOFS. What the host and the CPU can do to the machine, said once as a relation between states; what the CPU, the other
agents and so every step keep of the invariant; and that every launch satisfies it. -/

namespace Sys2Proof.Machine

/-! ### What the host and the CPU can do -/

/-- The states the host's moves and the CPU's steps lead to: the CPU's own operations with the changes of the CPU that `P`
allows, a power-up I/O write (R66), an update of the Timer, of IF, of the buttons or of the host's schedule. -/
inductive Acts (P : Cpu → Cpu → Prop) (s : State) : State → Prop where
  | refl : Acts P s s
  | reach {t u : State} (h : Acts P s t) (hr : Reach P t u) : Acts P s u
  | io {t : State} (h : Acts P s t) (off : BitVec 7) (v : Byte) : Acts P s (ioWrite off.toNat v t).state
  | timer {t : State} (h : Acts P s t) (x : Timer) : Acts P s (t.setTimer x)
  | intFlag {t : State} (h : Acts P s t) (v : BitVec 5) : Acts P s (t.setIF v)
  | buttons {t : State} (h : Acts P s t) (v : BitVec 8) : Acts P s (t.setButtons v)
  | host {t : State} (h : Acts P s t) (l : List (List HostMove)) : Acts P s (t.setHost l)

theorem Acts.trans {P : Cpu → Cpu → Prop} {s t u : State} (h : Acts P s t) (h' : Acts P t u) : Acts P s u := by
  induction h' with
  | refl => exact h
  | reach _ hr ih => exact ih.reach hr
  | io _ off v ih => exact ih.io off v
  | timer _ x ih => exact ih.timer x
  | intFlag _ v ih => exact ih.intFlag v
  | buttons _ v ih => exact ih.buttons v
  | host _ l ih => exact ih.host l

/-- The operations of the CPU whose reach is known count with any change of the CPU allowed. -/
theorem Reach.acts {P : Cpu → Cpu → Prop} {s t : State} (h : Reach P s t) : Acts AnyCpu s t :=
  .reach .refl (h.mono fun _ _ _ => trivial)

/-- Any update of the CPU. -/
theorem Acts.cpu (s : State) (c : Cpu) : Acts AnyCpu s (s.withCpu c) := .reach .refl (.cpu .refl c trivial)

/-- What holds of the state after the first part of an operation, and what the second part keeps, holds after both, however
the first one ends. -/
theorem Res.bind_induct {α β : Type} {I : State → Prop} {r : Res α} {f : α → State → Res β} (h : I r.state)
    (hf : ∀ v t, I t → I (f v t).state) : I (r.bind f).state := by
  cases r with
  | ok v t => exact hf v t h
  | fatal t => exact h

theorem Res.bind_acts {α β : Type} {P : Cpu → Cpu → Prop} {r : Res α} {f : α → State → Res β} {s : State}
    (h : Acts P s r.state) (hf : ∀ v t, Acts P t (f v t).state) : Acts P s (r.bind f).state :=
  Res.bind_induct (I := Acts P s) h fun v t ht => ht.trans (hf v t)

theorem timerStep_acts (P : Cpu → Cpu → Prop) (s : State) : Acts P s (timerStep s) := by
  unfold timerStep
  dsimp only
  split
  · split
    · exact (Acts.refl.timer _).intFlag _
    · exact Acts.refl.timer _
  · exact Acts.refl.timer _

theorem applyIoWrites_acts (l : List (BitVec 7 × Byte)) (s : State) : Acts AnyCpu s (applyIoWrites l s).state := by
  induction l generalizing s with
  | nil => exact .refl
  | cons w l ih => exact Res.bind_acts (Acts.refl.io w.1 w.2) fun _ => ih

/-- The power-up record as one update of the register file and one of the Timer (R62, R521). -/
theorem loadPowerUp_eq (p : PowerUp) (s : State) : loadPowerUp p s =
    (s.withCpu { s.cpu with
      a := p.a, f := p.f &&& 0xF0, b := p.b, c := p.c, d := p.d, e := p.e, h := p.h, l := p.l, sp := p.sp }).setTimer
        { s.timer with counter := p.tCounter } := by
  simp only [loadPowerUp, State.setA, State.setF, State.setB, State.setC, State.setD, State.setE, State.setH, State.setL,
    State.setSp, State.setTimer, State.withCpu]

theorem loadPowerUp_acts (p : PowerUp) (s : State) : Acts AnyCpu s (loadPowerUp p s) := by
  rw [loadPowerUp_eq]
  exact (Acts.cpu s _).timer _

theorem resetToRunning_acts (s : State) : Acts AnyCpu s (resetToRunning s).state := by
  unfold resetToRunning
  split
  · exact .cpu s _
  · exact Res.bind_acts ((loadPowerUp_acts _ s).trans (applyIoWrites_acts _ _)) fun _ t => .cpu t _

theorem cpuBegin_acts (s : State) : Acts AnyCpu s (cpuBegin s).state := by
  unfold cpuBegin
  split
  · exact Res.bind_acts (resetToRunning_acts s) fun _ t => .cpu t _
  · exact timerStep_acts _ s

theorem takeInterrupt_acts (k : IntSource) (s : State) : Acts AnyCpu s (takeInterrupt k s).state := by
  refine Res.bind_acts (((Acts.refl.intFlag _).trans (.cpu _ _)).trans (from_push16 _ _).reach.acts) fun _ t => ?_
  dsimp only
  split
  · exact (Acts.cpu t _).trans (.cpu _ _)
  · exact (Acts.cpu t _).trans (.cpu _ _)
  · exact .cpu t _
  · exact .cpu t _

theorem interruptDispatch_acts (s : State) : Acts AnyCpu s (interruptDispatch s).state := by
  unfold interruptDispatch
  split
  · split
    · exact takeInterrupt_acts _ s
    · exact .refl
  · exact .refl

theorem waitStates_acts (s : State) : Acts AnyCpu s (waitStates s).state := by
  unfold waitStates
  split
  · split
    · exact .refl
    · exact .cpu s _
  · show Acts AnyCpu s (if s.dispatchable = 0 then s else s.setRunState .running)
    split
    · exact .refl
    · exact .cpu s _
  · exact .refl
  · exact .refl

theorem afterPending_acts (s : State) : Acts AnyCpu s (afterPending s).state := by
  have h := interruptDispatch_acts s
  unfold afterPending
  cases hr : interruptDispatch s with
  | fatal t => rw [hr] at h; exact h
  | ok n t =>
    rw [hr] at h
    dsimp only
    split
    · exact h.trans (.cpu t _)
    · exact h.trans (waitStates_acts t)

theorem cpuPrologue_acts (s : State) : Acts AnyCpu s (cpuPrologue s).state := by
  have h := cpuBegin_acts s
  unfold cpuPrologue
  cases hr : cpuBegin s with
  | fatal t => rw [hr] at h; exact h
  | ok v t =>
    rw [hr] at h
    dsimp only
    split
    · exact h.trans (.cpu t _)
    · exact h.trans (afterPending_acts t)

theorem fetchOpcode_acts (s : State) : Acts AnyCpu s (fetchOpcode s).state := by
  refine Res.bind_acts (from_busRead16 _ s).reach.acts fun op t => ?_
  show Acts AnyCpu t (if t.cpu.haltBug then _ else _)
  split
  · exact (Acts.cpu t _).trans (.cpu _ _)
  · exact (Acts.cpu t _).trans (.cpu _ _)

theorem from_operandBytes (n : Nat) (s : State) : (operandBytes n s).From s := by
  induction n generalizing s with
  | zero => exact .ok .refl
  | succ n ih => exact .bind (from_imm8 s) fun b t _ => .bind (ih t) fun bs u _ => .ok .refl

theorem fetch_acts (s : State) : Acts AnyCpu s (fetch s).state :=
  Res.bind_acts (fetchOpcode_acts s) fun _ t =>
    Res.bind_acts (from_operandBytes _ t).reach.acts fun _ _ => .refl

theorem fetchExecute_acts {s t : State} (h : fetchExecute s = .next t) : Acts AnyCpu s t := by
  have hf := fetch_acts s
  unfold fetchExecute at h
  cases hr : fetch s with
  | ok i u =>
    rw [hr] at h hf
    obtain ⟨v, hv, hreach⟩ := exec_reach i u
    cases hv.symm.trans h
    exact hf.reach hreach
  | fatal u =>
    rw [hr] at h hf
    cases h
    exact hf

/-- What a CPU step does. -/
theorem cpuStep_acts {s t : State} (h : cpuStep s = .next t) : Acts AnyCpu s t := by
  have hp := cpuPrologue_acts s
  unfold cpuStep at h
  cases hr : cpuPrologue s with
  | done u =>
    rw [hr] at h hp
    cases h
    exact hp
  | fetch u =>
    rw [hr] at h hp
    exact hp.trans (fetchExecute_acts h)

/-- The CPU is as it was. -/
abbrev SameCpu (c c' : Cpu) : Prop := c' = c

theorem hostMove_acts (m : HostMove) (s : State) : Acts SameCpu s (hostMove m s).state := by
  cases m with
  | press k =>
    show Acts SameCpu s (hostPress k s)
    unfold hostPress
    split
    · exact .refl
    · exact (Acts.refl.buttons _).intFlag _
  | release k => exact Acts.refl.buttons _
  | poke a v =>
    show Acts SameCpu s (hostWrite a v s).state
    unfold hostWrite
    split
    · exact .reach .refl (.fault .refl _)
    · exact .reach .refl (.write .refl _ v)

theorem hostMoves_acts (l : List HostMove) (s : State) : Acts SameCpu s (hostMoves l s).state := by
  induction l generalizing s with
  | nil => exact .refl
  | cons m l ih => exact Res.bind_acts (hostMove_acts m s) fun _ => ih

/-- What the host's turn does. -/
theorem hostTurn_acts (s : State) : Acts SameCpu s (hostTurn s).state := by
  unfold hostTurn
  split
  · exact .refl
  · exact (Acts.refl.host _).trans (hostMoves_acts _ _)

/-- What the host and the CPU do keeps the invariant outside the CPU. -/
theorem Acts.inv {P : Cpu → Cpu → Prop} {s t : State} (h : Acts P s t) (hs : OuterInv s) : OuterInv t := by
  induction h with
  | refl => exact hs
  | reach _ hr ih => exact hr.inv ih
  | io _ off v ih => exact (ioWrite_effect _ v _).inv off.isLt ih
  | timer _ x ih => exact ih.setTimer x
  | intFlag _ v ih => exact ih.setIF v
  | buttons _ v ih => exact ih.setButtons v
  | host _ l ih => exact ih.setHost l

/-- With no change of the CPU allowed it stays as it was. -/
theorem Acts.cpu_eq {s t : State} (h : Acts SameCpu s t) : t.cpu = s.cpu := by
  induction h with
  | refl => rfl
  | reach _ hr ih =>
    exact hr.induct (I := fun u => u.cpu = s.cpu) (fun u c hc hu => hc.trans hu)
      (fun u a hu => (busRead_kept a u).cpu.trans hu) (fun u a v hu => (busWrite_kept a v u).cpu.trans hu)
      (fun _ _ hu => hu) ih
  | io _ off v ih => exact (ioWrite_effect _ v _).kept.cpu.trans ih
  | timer _ _ ih | intFlag _ _ ih | buttons _ _ ih | host _ _ ih => exact ih

/-! ### The Transfer Engine -/

/-- What Bus accesses and updates of the two transfers keep, the Transfer Engine's step keeps. -/
theorem transferStep_induct {I : State → Prop} (hr : ∀ t a, I t → I (busRead a t).state)
    (hw : ∀ t a v, I t → I (busWrite a v t).state) (ho : ∀ t x, I t → I (t.setOamDma x))
    (hh : ∀ t x, I t → I (t.setHdma x)) {s : State} (hs : I s) : I (transferStep s).state := by
  have hoam (t : State) (ht : I t) : I (oamMoveByte t).state :=
    Res.bind_induct (hr t _ ht) fun b u hu => Res.bind_induct (hw u _ b hu) fun _ v hv => ho v _ hv
  have hhdma (t : State) (ht : I t) : I (hdmaMoveByte t).state :=
    Res.bind_induct (hr t _ ht) fun b u hu => Res.bind_induct (hw u _ b hu) fun _ v hv => hh v _ hv
  unfold transferStep
  split
  · unfold hdmaStep
    split
    · exact hs
    · split
      · exact hhdma _ (hh s _ hs)
      · exact hh s _ hs
  · split
    · refine Res.bind_induct ?_ fun _ t ht => ?_
      · split
        · exact hoam _ (ho s _ hs)
        · exact ho s _ hs
      · show I (if t.oamDma.ticks = 161 then _ else t)
        split
        · exact ho t _ ht
        · exact ht
    · exact hs

theorem transferStep_cpu (s : State) : (transferStep s).state.cpu = s.cpu :=
  transferStep_induct (I := fun t => t.cpu = s.cpu) (fun t a ht => (busRead_kept a t).cpu.trans ht)
    (fun t a v ht => (busWrite_kept a v t).cpu.trans ht) (fun _ _ ht => ht) (fun _ _ ht => ht) rfl

theorem videoStep_cpu (s : State) : (videoStep s).cpu = s.cpu := (videoOnly_videoStep s).busKept.cpu

/-! ### The CPU's part of the invariant -/

/-- It speaks of the control state and the low bits of F only. -/
theorem Cpu.Inv.ctlKept {c c' : Cpu} (h : c.Inv) (hk : CtlKept c c') : c'.Inv where
  flagsLow := hk.flagsLow h.flagsLow
  pendingCycles := by rw [hk.pendingCycles]; exact h.pendingCycles
  haltBug := by rw [hk.haltBug, hk.ime, hk.runState, hk.pendingCycles]; exact h.haltBug
  reset := by rw [hk.haltBug, hk.ime, hk.runState, hk.pendingCycles]; exact h.reset

/-- What leaves IME and the wait state free: the low bits of F 0, no HALT bug, not RESET. -/
structure Cpu.Settled (c : Cpu) : Prop where
  flagsLow : c.f &&& 0x0F = 0
  haltBug : c.haltBug = false
  notReset : c.runState ≠ .reset

theorem Cpu.Settled.ctlKept {c c' : Cpu} (h : c.Settled) (hk : CtlKept c c') : c'.Settled :=
  ⟨hk.flagsLow h.flagsLow, hk.haltBug.trans h.haltBug, by rw [hk.runState]; exact h.notReset⟩

theorem Cpu.Settled.inv {c : Cpu} (h : c.Settled) (hp : c.pendingCycles ≤ 5) : c.Inv where
  flagsLow := h.flagsLow
  pendingCycles := hp
  haltBug hb := by rw [h.haltBug] at hb; contradiction
  reset hr := absurd hr h.notReset

/-- Where the CPU stands as an instruction runs: settled, RUNNING, no cycle pending. -/
structure Cpu.Executing (c : Cpu) : Prop where
  settled : c.Settled
  runState : c.runState = .running
  pendingCycles : c.pendingCycles = 0

theorem Cpu.Executing.ctlKept {c c' : Cpu} (h : c.Executing) (hk : CtlKept c c') : c'.Executing :=
  ⟨h.settled.ctlKept hk, hk.runState.trans h.runState, hk.pendingCycles.trans h.pendingCycles⟩

theorem Cpu.Executing.inv {c : Cpu} (h : c.Executing) : c.Inv := h.settled.inv (by rw [h.pendingCycles]; omega)

theorem Ends.cpuInv {s t : State} (h : Ends s t) (hs : s.cpu.Executing) : t.cpu.Inv := by
  cases h with
  | done hr hf k hk =>
    obtain ⟨hlow, hbug, hreset⟩ := hs.settled.ctlKept hr.ctl
    exact Cpu.Settled.inv ⟨hlow, hbug, hreset⟩ hk
  | stopped hr hf => exact (hs.ctlKept hr.ctl).inv

/-- The five instructions that change the CPU's control state beside their cost. -/
theorem Instr.control_cases {i : Instr} (h : ¬Instr.control i = false) :
    i = .halt ∨ (∃ pad, i = .stop pad) ∨ i = .di ∨ i = .ei ∨ i = .reti := by
  unfold Instr.control at h
  split at h
  · exact .inl rfl
  · exact .inr (.inl ⟨_, rfl⟩)
  · exact .inr (.inr (.inl rfl))
  · exact .inr (.inr (.inr (.inl rfl)))
  · exact .inr (.inr (.inr (.inr rfl)))
  · exact absurd rfl h

/-- RETI pops its return address and sets IME, or ends where the pop was fatal (R330). -/
theorem exec_reti (s : State) :
    (∃ v u, pop16 s = .ok v u ∧ exec .reti s = .next (((u.setPc v).setIme true).setPending 3)) ∨
    ∃ u, pop16 s = .fatal u ∧ exec .reti s = .next u := by
  show (∃ v u, _ ∧ finish 4 ((pop16 s).bind fun v s => .ok () ((s.setPc v).setIme true)) = _) ∨
    ∃ u, _ ∧ finish 4 ((pop16 s).bind fun v s => .ok () ((s.setPc v).setIme true)) = _
  cases pop16 s with
  | ok v u => exact .inl ⟨v, u, rfl, rfl⟩
  | fatal u => exact .inr ⟨u, rfl, rfl⟩

/-- HALT sets `cpu_state` or the HALT bug, and nothing else (R342). -/
theorem haltCpu_cases (s : State) : haltCpu s = s.setRunState .halted ∨ haltCpu s = s.setHaltBug true := by
  unfold haltCpu
  split
  · exact .inl rfl
  · split
    · exact .inl rfl
    · exact .inr rfl

/-- HALT halts, or arms the HALT bug with IME clear (R342, R368). -/
theorem haltCpu_cpuInv {s : State} (hs : s.cpu.Executing) : ((haltCpu s).setPending 0).cpu.Inv := by
  obtain ⟨⟨hlow, hbug, -⟩, hrun, -⟩ := hs
  have hhalted : ((s.setRunState .halted).setPending 0).cpu.Inv :=
    Cpu.Settled.inv ⟨hlow, hbug, by simp⟩ (by simp)
  unfold haltCpu
  split
  · exact hhalted
  · next hime =>
    split
    · exact hhalted
    · exact ⟨hlow, by simp, fun _ => ⟨by simpa using hime, hrun, rfl⟩, fun hr => by simp [hrun] at hr⟩

/-- RETI sets IME, the HALT bug not being armed (R330). -/
theorem reti_cpuInv {s t : State} (hs : s.cpu.Executing) (h : exec .reti s = .next t) : t.cpu.Inv := by
  have hpop := (from_pop16 s).reach.ctl
  obtain ⟨v, u, hu, ht⟩ | ⟨u, hu, ht⟩ := exec_reti s <;> cases ht.symm.trans h <;> rw [hu] at hpop
  · obtain ⟨hlow, hbug, hreset⟩ := hs.settled.ctlKept hpop
    exact Cpu.Settled.inv ⟨hlow, hbug, hreset⟩ (by simp)
  · exact (hs.ctlKept hpop).inv

/-- Every instruction keeps the CPU's part. -/
theorem exec_cpuInv {i : Instr} {s t : State} (hs : s.cpu.Executing) (h : exec i s = .next t) : t.cpu.Inv := by
  by_cases hi : Instr.control i = false
  · obtain ⟨u, hu, hends⟩ := exec_ends i s hi
    cases hu.symm.trans h
    exact hends.cpuInv hs
  · obtain ⟨⟨hlow, hbug, hreset⟩, -, -⟩ := id hs
    obtain rfl | ⟨pad, rfl⟩ | rfl | rfl | rfl := Instr.control_cases hi
    · cases h
      exact haltCpu_cpuInv hs
    · cases h
      exact Cpu.Settled.inv ⟨hlow, hbug, by simp⟩ (by simp)
    · cases h
      exact Cpu.Settled.inv ⟨hlow, hbug, hreset⟩ (by simp)
    · cases h
      exact Cpu.Settled.inv ⟨hlow, hbug, hreset⟩ (by simp)
    · exact reti_cpuInv hs h

/-- An operation that ends well ends as `P` says, one that a fatal error ends as `Q` says. -/
def Res.Meets {α : Type} (r : Res α) (P : α → State → Prop) (Q : State → Prop) : Prop :=
  match r with
  | .ok v s => P v s
  | .fatal s => Q s

theorem Res.Meets.bind {α β : Type} {r : Res α} {f : α → State → Res β} {P : α → State → Prop} {Q Q' : State → Prop}
    {P' : β → State → Prop} (h : r.Meets P Q) (hf : ∀ v t, P v t → (f v t).Meets P' Q') (hq : ∀ t, Q t → Q' t) :
    (r.bind f).Meets P' Q' := by
  cases r with
  | ok v t => exact hf v t h
  | fatal t => exact hq t h

theorem Res.Meets.mono {α : Type} {r : Res α} {P P' : α → State → Prop} {Q : State → Prop} (h : r.Meets P Q)
    (hp : ∀ v t, P v t → P' v t) : r.Meets P' Q := by
  cases r with
  | ok v t => exact hp v t h
  | fatal t => exact h

/-- What holds of the state an operation ends in, however it ends. -/
theorem Res.meets_state {α : Type} {r : Res α} {I : State → Prop} (h : I r.state) : r.Meets (fun _ => I) I := by
  cases r <;> exact h

theorem Res.From.meets {α : Type} {r : Res α} {s : State} (h : r.From s) :
    r.Meets (fun _ t => CtlKept s.cpu t.cpu) fun t => CtlKept s.cpu t.cpu :=
  Res.meets_state (I := fun t => CtlKept s.cpu t.cpu) h.reach.ctl

/-- Where the CPU stands as a fetch begins: the HALT bug may be armed. -/
structure Cpu.Fetching (c : Cpu) : Prop where
  inv : c.Inv
  runState : c.runState = .running
  pendingCycles : c.pendingCycles = 0

/-- The opcode fetch disarms the HALT bug; a fatal one leaves the CPU (R177, R178). -/
theorem fetchOpcode_cpu {s : State} (hs : s.cpu.Fetching) :
    (fetchOpcode s).Meets (fun _ t => t.cpu.Executing) fun t => t.cpu.Inv := by
  obtain ⟨hinv, hrun, hpend⟩ := hs
  refine (Res.meets_state (I := fun t => t.cpu = s.cpu) (busRead_kept s.cpu.pc.toNat s).cpu).bind ?_ ?_
  · intro op t ht
    rw [← ht] at hinv hrun hpend
    show (if t.cpu.haltBug then _ else _ : State).cpu.Executing
    split
    · exact ⟨⟨hinv.flagsLow, rfl, by simp [hrun]⟩, hrun, hpend⟩
    · next hbug => exact ⟨⟨hinv.flagsLow, by simpa using hbug, by simp [hrun]⟩, hrun, hpend⟩
  · intro t ht
    rw [ht]
    exact hinv

theorem fetch_cpu {s : State} (hs : s.cpu.Fetching) :
    (fetch s).Meets (fun _ t => t.cpu.Executing) fun t => t.cpu.Inv := by
  refine (fetchOpcode_cpu hs).bind (fun op t ht => ?_) fun _ => id
  exact (from_operandBytes _ t).meets.bind (fun bs u hu => ht.ctlKept hu) fun u hu => (ht.ctlKept hu).inv

theorem fetchExecute_cpuInv {s t : State} (hs : s.cpu.Fetching) (h : fetchExecute s = .next t) : t.cpu.Inv := by
  have hf := fetch_cpu hs
  unfold fetchExecute at h
  cases hr : fetch s with
  | ok i u => rw [hr] at h hf; exact exec_cpuInv hf h
  | fatal u => rw [hr] at h hf; cases h; exact hf

/-! ### Up to the fetch -/

theorem applyIoWrites_cpu (l : List (BitVec 7 × Byte)) (s : State) : (applyIoWrites l s).state.cpu = s.cpu := by
  induction l generalizing s with
  | nil => rfl
  | cons w l ih =>
    have hw := (ioWrite_effect w.1.toNat w.2 s).kept.cpu
    unfold applyIoWrites
    cases hr : ioWrite w.1.toNat w.2 s with
    | ok _ t => rw [hr] at hw; exact (ih t).trans hw
    | fatal t => rw [hr] at hw; exact hw

theorem loadPowerUp_ctl (p : PowerUp) (s : State) : CtlKept s.cpu (loadPowerUp p s).cpu := by
  rw [loadPowerUp_eq]
  exact ⟨rfl, rfl, rfl, rfl, rfl, fun _ => low_setF p.f⟩

/-- The reset work leaves the CPU's control state alone (R521). -/
theorem resetToRunning_ctl (s : State) : CtlKept s.cpu (resetToRunning s).state.cpu := by
  unfold resetToRunning
  split
  · exact ⟨rfl, rfl, rfl, rfl, rfl, id⟩
  · have hload := loadPowerUp_ctl (s.params.powerUp s.mode) s
    dsimp only
    rw [← applyIoWrites_cpu (s.params.powerUp s.mode).ioWrites (loadPowerUp _ s)] at hload
    cases hr : applyIoWrites (s.params.powerUp s.mode).ioWrites (loadPowerUp (s.params.powerUp s.mode) s) with
    | ok _ t => rw [hr] at hload; exact hload.trans ⟨rfl, rfl, rfl, rfl, rfl, id⟩
    | fatal t => rw [hr] at hload; exact hload

theorem timerStep_cpu (s : State) : (timerStep s).cpu = s.cpu := (timerStep_acts SameCpu s).cpu_eq

/-- After the top of a CPU step the CPU is out of RESET. -/
theorem cpuBegin_cpu {s : State} (hs : s.cpu.Inv) :
    (cpuBegin s).Meets (fun _ t => t.cpu.Inv ∧ t.cpu.runState ≠ .reset) fun t => t.cpu.Inv := by
  unfold cpuBegin
  split
  · next hreset =>
    refine (Res.meets_state (I := fun t => CtlKept s.cpu t.cpu) (resetToRunning_ctl s)).bind ?_ fun _ => hs.ctlKept
    intro _ t ht
    have hinv := hs.ctlKept ht
    obtain ⟨-, hbug, -⟩ := hinv.reset (ht.runState.trans hreset)
    exact ⟨Cpu.Settled.inv ⟨hinv.flagsLow, hbug, by simp⟩ hinv.pendingCycles, by simp⟩
  · next hreset =>
    show (timerStep s).cpu.Inv ∧ (timerStep s).cpu.runState ≠ .reset
    rw [timerStep_cpu]
    exact ⟨hs, hreset⟩

/-- Taking an interrupt charges 5 or 6 cycles and leaves the CPU settled (R361, R362). -/
theorem takeInterrupt_cpu (k : IntSource) {s : State} (hs : s.cpu.Settled) (hp : s.cpu.pendingCycles ≤ 5) :
    (takeInterrupt k s).Meets (fun n t => 0 < n ∧ n ≤ 6 ∧ t.cpu.Settled) fun t => t.cpu.Inv := by
  have hclear : ((s.setIF (s.ints.pending &&& ~~~k.mask)).setIme false).cpu.Settled :=
    ⟨hs.flagsLow, hs.haltBug, hs.notReset⟩
  refine (from_push16 _ _).meets.bind (fun _ t ht => ?_) fun t ht =>
    (hclear.ctlKept ht).inv (by rw [ht.pendingCycles]; exact hp)
  obtain ⟨hlow, hbug, hreset⟩ := hclear.ctlKept ht
  have hrunning (v : Word) : ((t.setPc v).setRunState .running).cpu.Settled := ⟨hlow, hbug, by simp⟩
  have hkept (v : Word) : (t.setPc v).cpu.Settled := ⟨hlow, hbug, hreset⟩
  dsimp only
  split
  · exact ⟨by omega, by omega, hrunning _⟩
  · exact ⟨by omega, by omega, hrunning _⟩
  · exact ⟨by omega, by omega, hkept _⟩
  · exact ⟨by omega, by omega, hkept _⟩

/-- A dispatch finds IME set, so the HALT bug not armed (R368). -/
theorem interruptDispatch_cpu {s : State} (hs : s.cpu.Inv) (hreset : s.cpu.runState ≠ .reset) :
    (interruptDispatch s).Meets (fun n t => (n = 0 ∧ t = s) ∨ (0 < n ∧ n ≤ 6 ∧ t.cpu.Settled)) fun t => t.cpu.Inv := by
  unfold interruptDispatch
  split
  · next hime =>
    have hbug : s.cpu.haltBug = false := by
      by_contra hb
      simp [(hs.haltBug (by simpa using hb)).1] at hime
    split
    · exact (takeInterrupt_cpu _ ⟨hs.flagsLow, hbug, hreset⟩ hs.pendingCycles).mono fun _ _ => .inr
    · exact .inl ⟨rfl, rfl⟩
  · exact .inl ⟨rfl, rfl⟩

/-- What is left of a CPU step: it is over and the CPU keeps its part, or a fetch begins. -/
def Prologue.CpuOk : Prologue → Prop
  | .done t => t.cpu.Inv
  | .fetch t => t.cpu.Fetching

/-- The HALT bug is armed only while RUNNING, so none of the wait states has it. -/
theorem Cpu.Inv.settled_of_waiting {c : Cpu} (h : c.Inv) (hreset : c.runState ≠ .reset) (hrun : c.runState ≠ .running) :
    c.Settled :=
  ⟨h.flagsLow, by
    by_contra hb
    exact hrun (h.haltBug (by simpa using hb)).2.1, hreset⟩

theorem waitStates_cpu {s : State} (hs : s.cpu.Inv) (hreset : s.cpu.runState ≠ .reset) (hp : s.cpu.pendingCycles = 0) :
    (waitStates s).CpuOk := by
  have hwake (h : s.cpu.runState ≠ .running) : (s.setRunState .running).cpu.Fetching :=
    ⟨Cpu.Settled.inv ⟨hs.flagsLow, (hs.settled_of_waiting hreset h).haltBug, by simp⟩ hs.pendingCycles, rfl, hp⟩
  unfold waitStates
  cases hr : s.cpu.runState with
  | stopped =>
    dsimp only
    split
    · exact hs
    · exact hwake (by simp [hr])
  | halted =>
    show (if s.dispatchable = 0 then s else s.setRunState .running).cpu.Inv
    split
    · exact hs
    · exact (hwake (by simp [hr])).inv
  | running => exact ⟨hs, hr, hp⟩
  | reset => exact absurd hr hreset

theorem afterPending_cpu {s : State} (hs : s.cpu.Inv) (hreset : s.cpu.runState ≠ .reset) (hp : s.cpu.pendingCycles = 0) :
    (afterPending s).CpuOk := by
  have hd := interruptDispatch_cpu hs hreset
  unfold afterPending
  cases hr : interruptDispatch s with
  | fatal t => rw [hr] at hd; exact hd
  | ok n t =>
    rw [hr] at hd
    dsimp only
    obtain ⟨rfl, rfl⟩ | ⟨hpos, hle, hlow, hbug, hset⟩ := hd
    · exact waitStates_cpu hs hreset hp
    · rw [if_pos hpos]
      exact Cpu.Settled.inv ⟨hlow, hbug, hset⟩ (by simp; omega)

theorem cpuPrologue_cpu {s : State} (hs : s.cpu.Inv) : (cpuPrologue s).CpuOk := by
  have hb := cpuBegin_cpu hs
  unfold cpuPrologue
  cases hr : cpuBegin s with
  | fatal t => rw [hr] at hb; exact hb
  | ok _ t =>
    rw [hr] at hb
    obtain ⟨hinv, hreset⟩ := hb
    dsimp only
    split
    · next hpos =>
      have hbug : t.cpu.haltBug = false := by
        by_contra hbug
        have := (hinv.haltBug (by simpa using hbug)).2.2
        omega
      exact Cpu.Settled.inv ⟨hinv.flagsLow, hbug, hreset⟩ (by have := hinv.pendingCycles; simp; omega)
    · next hpos => exact afterPending_cpu hinv hreset (by omega)

/-- A CPU step keeps the CPU's part of the invariant. -/
theorem cpuStep_cpuInv {s t : State} (hs : s.cpu.Inv) (h : cpuStep s = .next t) : t.cpu.Inv := by
  have hp := cpuPrologue_cpu hs
  unfold cpuStep at h
  cases hr : cpuPrologue s with
  | done u => rw [hr] at h hp; cases h; exact hp
  | fetch u => rw [hr] at h hp; exact fetchExecute_cpuInv hp h

/-! ### The Transfer Engine keeps the invariant outside the CPU -/

theorem OuterInv.setHdma {s : State} (h : OuterInv s) {x : HdmaTransfer} (hmode : s.mode = .dmg → x.active = false)
    (hblock : x.active = true → hdmaValid x.src x.dst x.len = true)
    (haligned : x.active = true → x.src &&& 0x000F = 0 ∧ x.dst &&& 0x000F = 0)
    (hlength : x.active = true → 16 ∣ x.len ∧ 16 ≤ x.len ∧ x.len ≤ 2048)
    (hcopied : x.active = true → x.copied < x.len) : OuterInv (s.setHdma x) :=
  ⟨h.mem, ⟨h.banks.wramBank, h.banks.legacy, h.banks.bootRom⟩,
    ⟨h.oamDma.source, h.oamDma.ticks, h.oamDma.copied, h.oamDma.progress⟩,
    ⟨hmode, hblock, haligned, hlength, hcopied⟩, (State.videoInv_iff _).mpr ((State.videoInv_iff s).mp h.video),
    ⟨h.io.joyp, h.io.stat, h.io.key1⟩⟩

/-- The destination of an active gated transfer's next byte is in VRAM (R432). -/
theorem hdmaValid_dst {src dst : Word} {len n : Nat} (h : hdmaValid src dst len = true) (hn : n < len) :
    0x8000 ≤ dst.toNat + n ∧ dst.toNat + n ≤ 0x9FFF := by
  obtain ⟨hlo, hhi, -⟩ := of_decide_eq_true h
  omega

theorem OuterInv.hdmaMoveByte {s : State} (h : OuterInv s) (ha : s.hdma.active = true) :
    OuterInv (hdmaMoveByte s).state := by
  have hread := h.busRead (s.hdma.src.toNat + s.hdma.copied)
  have honly := busRead_only (s.hdma.src.toNat + s.hdma.copied) s
  unfold Machine.hdmaMoveByte
  cases hr : Machine.busRead (s.hdma.src.toNat + s.hdma.copied) s with
  | fatal t => rw [hr] at hread; exact hread
  | ok b t =>
    rw [hr, Res.state_ok] at hread honly
    have hhdma : t.hdma = s.hdma := by rw [honly]
    rw [← hhdma] at ha
    obtain ⟨hdst, hdst'⟩ := hdmaValid_dst (hread.hdma.block ha) (hread.hdma.copied ha)
    have hwrite := hread.busWrite (t.hdma.dst.toNat + t.hdma.copied) b
    rw [busWrite_vram t hdst hdst' b, Res.state_ok] at hwrite
    rw [Res.bind_ok, busWrite_vram t hdst hdst' b, Res.bind_ok]
    refine hwrite.setHdma ?_ (fun _ => hread.hdma.block ha) (fun _ => hread.hdma.aligned ha)
      (fun _ => hread.hdma.length ha) ?_
    · intro hmode
      simp [hread.hdma.legacy hmode]
    · intro hactive
      have hne : t.hdma.copied + 1 ≠ t.hdma.len := by simpa [ha] using hactive
      have := hread.hdma.copied ha
      show t.hdma.copied + 1 < t.hdma.len
      omega

theorem OuterInv.hdmaStep {s : State} (h : OuterInv s) (ha : s.hdma.active = true) : OuterInv (hdmaStep s).state := by
  have hphase (p : Bool) : OuterInv (s.setHdma { s.hdma with phase := p }) :=
    h.setHdma h.hdma.legacy h.hdma.block h.hdma.aligned h.hdma.length h.hdma.copied
  unfold Machine.hdmaStep
  split
  · exact h
  · split
    · exact (hphase false).hdmaMoveByte ha
    · exact hphase true

/-- A tick of the immediate transfer after its first one: the byte read is stored in OAM, the counts step, and the tick 161
ends the transfer. -/
theorem oamStep_eq_move {s : State} (ht : 1 ≤ s.oamDma.ticks) (hc : s.oamDma.copied < 160) :
    oamStep s = (busRead (s.oamDma.src.toNat + s.oamDma.copied)
        (s.setOamDma { s.oamDma with ticks := s.oamDma.ticks + 1 })).bind fun b u =>
      .ok () ((u.setMem { u.mem with oam := u.mem.oam.write s.oamDma.copied b }).setOamDma
        { s.oamDma with
          ticks := s.oamDma.ticks + 1, copied := s.oamDma.copied + 1
          active := s.oamDma.active && s.oamDma.ticks + 1 != 161 }) := by
  have hkept (b : Byte) (u : State) : (busRead (s.oamDma.src.toNat + s.oamDma.copied)
      (s.setOamDma { s.oamDma with ticks := s.oamDma.ticks + 1 })) = .ok b u →
      u.oamDma = { s.oamDma with ticks := s.oamDma.ticks + 1 } := fun hr => by
    obtain rfl | rfl := busRead_ok hr <;> rfl
  have htwo : s.oamDma.ticks + 1 ≥ 2 := by omega
  simp only [oamStep, oamMoveByte, State.setOamDma_oamDma, htwo, if_true]
  cases hr : busRead (s.oamDma.src.toNat + s.oamDma.copied)
    (s.setOamDma { s.oamDma with ticks := s.oamDma.ticks + 1 }) with
  | fatal u => rfl
  | ok b u =>
    have hoam := hkept b u hr
    simp only [Res.bind_ok, hoam, busWrite_oam u hc b, State.setOamDma_oamDma, State.setMem_oamDma]
    by_cases hlast : s.oamDma.ticks + 1 = 161
    · simp only [hlast, if_true, bne_self_eq_false, Bool.and_false]
      rfl
    · simp only [hlast, if_false, bne_iff_ne.mpr hlast, Bool.and_true]

theorem OuterInv.oamStep {s : State} (h : OuterInv s) (hf : s.fault = none) (ha : s.oamDma.active = true) :
    OuterInv (oamStep s).state := by
  obtain ⟨hticks, hcopied⟩ := h.oamDma.progress hf ha
  by_cases ht : s.oamDma.ticks = 0
  · have hmoved : Machine.oamStep s = .ok () (s.setOamDma { s.oamDma with ticks := s.oamDma.ticks + 1 }) := by
      simp [Machine.oamStep, ht]
    rw [hmoved]
    exact h.setOamDma h.oamDma.source (by simp; omega) (by simp; omega) fun _ _ => ⟨by simp; omega, by simp; omega⟩
  · have hmove (u : State) (hu : OuterInv u) (b : Byte) :
        OuterInv ((u.setMem { u.mem with oam := u.mem.oam.write s.oamDma.copied b }).setOamDma
          { s.oamDma with
            ticks := s.oamDma.ticks + 1, copied := s.oamDma.copied + 1
            active := s.oamDma.active && s.oamDma.ticks + 1 != 161 }) := by
      have hwrite := hu.busWrite (0xFE00 + s.oamDma.copied) b
      rw [busWrite_oam u (by omega) b] at hwrite
      refine hwrite.setOamDma h.oamDma.source (by simp; omega) (by simp; omega) fun _ hactive => ?_
      have hne : s.oamDma.ticks + 1 ≠ 161 := by simpa [ha] using hactive
      exact ⟨by simp; omega, by simp; omega⟩
    rw [oamStep_eq_move (by omega) (by omega)]
    obtain ⟨b, hr⟩ | ⟨b, hr⟩ | ⟨e, hr⟩ := busRead_cases (s.oamDma.src.toNat + s.oamDma.copied)
      (s.setOamDma { s.oamDma with ticks := s.oamDma.ticks + 1 }) <;> rw [hr]
    · exact hmove s h b
    · exact hmove s.drawFree h.drawFree b
    · exact (h.setFault e).setOamDma h.oamDma.source (by simp; omega) (by simp; omega) fun hfault => by simp at hfault

theorem OuterInv.transferStep {s : State} (h : OuterInv s) (hf : s.fault = none) : OuterInv (transferStep s).state := by
  unfold Machine.transferStep
  split
  · next ha => exact h.hdmaStep (by simp at ha; exact ha.1)
  · split
    · next ha => exact h.oamStep hf ha
    · exact h

/-! ### The step -/

/-- The invariant is its part outside the CPU and the CPU's part. -/
theorem State.inv_iff (s : State) : s.Inv ↔ OuterInv s ∧ s.cpu.Inv :=
  ⟨fun h => ⟨⟨h.mem, h.banks, h.oamDma, h.hdma, h.video, h.io⟩, h.cpu⟩,
    fun ⟨h, hcpu⟩ => ⟨h.mem, hcpu, h.banks, h.oamDma, h.hdma, h.video, h.io⟩⟩

theorem cpuStep_inv {s t : State} (h : s.Inv) (hstep : cpuStep s = .next t) : t.Inv := by
  rw [State.inv_iff] at *
  exact ⟨(cpuStep_acts hstep).inv h.1, cpuStep_cpuInv h.2 hstep⟩

theorem peripherals_inv {s t : State} (h : s.Inv) (hf : s.fault = none) (hstep : peripherals s = .next t) : t.Inv := by
  rw [State.inv_iff] at *
  have houter := h.1.transferStep hf
  have hcpu := transferStep_cpu s
  unfold peripherals at hstep
  cases hr : transferStep s with
  | ok _ u =>
    rw [hr, Res.state_ok] at houter hcpu
    rw [hr] at hstep
    cases hstep
    rw [videoStep_cpu, hcpu]
    exact ⟨houter.videoStep, h.2⟩
  | fatal u =>
    rw [hr, Res.state_fatal] at houter hcpu
    rw [hr] at hstep
    cases hstep
    exact ⟨houter, hcpu ▸ h.2⟩

theorem hostTurn_inv {s : State} (h : s.Inv) : (hostTurn s).state.Inv := by
  rw [State.inv_iff] at *
  exact ⟨(hostTurn_acts s).inv h.1, (hostTurn_acts s).cpu_eq ▸ h.2⟩

/-- Of two components in a row the second one runs only with no fault raised (R350). -/
theorem goOn_cases {o : Out} {f : State → Out} {t : State} (h : goOn o f = .next t) :
    o = .next t ∨ ∃ u, o = .next u ∧ u.fault = none ∧ f u = .next t := by
  cases o with
  | next u =>
    change (if u.fault.isSome then .next u else f u) = Host.Outcome.next t at h
    split at h
    · exact .inl h
    · next hnone => exact .inr ⟨u, rfl, by simpa using hnone, h⟩
  | fault e => cases h
  | refused e => cases h

theorem cpuSteps_inv {s t : State} (h : s.Inv) (hstep : cpuSteps s = .next t) : t.Inv := by
  unfold cpuSteps at hstep
  split at hstep
  · obtain ht | ⟨u, hu, -, ht⟩ := goOn_cases hstep
    · exact cpuStep_inv h ht
    · exact cpuStep_inv (cpuStep_inv h hu) ht
  · exact cpuStep_inv h hstep

theorem systemTick_inv {s t : State} (h : s.Inv) (hstep : systemTick s = .next t) : t.Inv := by
  unfold systemTick at hstep
  split at hstep
  · cases hstep
    exact h
  · obtain ht | ⟨u, hu, hf, ht⟩ := goOn_cases hstep
    · exact cpuSteps_inv h ht
    · exact peripherals_inv (cpuSteps_inv h hu) hf ht

/-- Settles O60: the host's turn, the CPU steps and the two components after them each keep the invariant. -/
theorem stepKeepsInvariant : Obligations.StepKeepsInvariant := by
  intro s t h hstep
  unfold step at hstep
  split at hstep
  · cases hstep
    exact h
  · have hturn := hostTurn_inv h
    cases hr : hostTurn s with
    | ok _ u => rw [hr] at hstep hturn; exact systemTick_inv hturn hstep
    | fatal u => rw [hr] at hstep hturn; cases hstep; exact hturn

/-! ### The state before the first tick satisfies it -/

/-- Settles O59: every part is read off the launch; memory is `launch_wf`. -/
theorem launchSatisfiesInvariant : Obligations.LaunchSatisfiesInvariant := by
  have hlaunch (l : Launch) (hwf : Memory.wf (State.launch l).mem) : (State.launch l).Inv := by
    have hbug : (State.launch l).cpu.haltBug ≠ true := Bool.false_ne_true
    have hhdma : (State.launch l).hdma.active ≠ true := Bool.false_ne_true
    have hoam : (State.launch l).oamDma.active ≠ true := Bool.false_ne_true
    have hzero (m : Byte) : 0 &&& m = 0 := BitVec.zero_and
    have hlcd : (State.launch l).video.lcdc.lcdOn ≠ true := Bool.false_ne_true
    exact
      { mem := hwf
        cpu := ⟨hzero _, Nat.zero_le _, (absurd · hbug), fun _ => ⟨rfl, rfl, rfl⟩⟩
        banks := ⟨show (1 : BitVec 3) ≠ 0 by decide, fun _ => ⟨rfl, rfl⟩, id⟩
        oamDma := ⟨rfl, Nat.zero_le _, Nat.zero_le _, fun _ => (absurd · hoam)⟩
        hdma := ⟨fun _ => rfl, (absurd · hhdma), (absurd · hhdma), (absurd · hhdma), (absurd · hhdma)⟩
        video := ⟨Nat.zero_le _, Nat.zero_le _, Nat.zero_le _, fun _ => ⟨rfl, rfl, rfl, rfl⟩,
          fun _ => ⟨rfl, rfl, rfl⟩, (absurd · hlcd), rfl, Bytes.wf_nil _, Bytes.wf_nil _, Frame.wf_nil _,
          Frame.wf_nil _, hzero _, hzero _⟩
        io := ⟨hzero _, hzero _, fun _ => hzero _⟩ }
  exact ⟨hlaunch _ reset_wf, fun l hboot hcart => hlaunch l (launch_wf l hboot hcart)⟩

end Sys2Proof.Machine

/-! PROOFS. How an instruction ends, and its frame in the register file: a table says which registers each instruction writes,
and one theorem holds the table to `exec`. -/

namespace Sys2Proof.Machine

/-! ### How an instruction ends -/

/-- Settles O21: `Ends` says how all but five instructions end; those five are looked at one by one. -/
theorem everyInstructionAnswersNext : Obligations.EveryInstructionAnswersNext := by
  intro i s
  by_cases hi : Instr.control i = false
  · obtain ⟨t, ht, hends⟩ := exec_ends i s hi
    refine ⟨t, ht, ?_⟩
    cases hends with
    | done hreach hfault k hk => exact .inl ⟨hfault, hk⟩
    | stopped hreach hfault => exact .inr ⟨hfault, hreach.ctl.pendingCycles⟩
  · obtain rfl | ⟨pad, rfl⟩ | rfl | rfl | rfl := Instr.control_cases hi
    · refine ⟨(haltCpu s).setPending 0, rfl, .inl ⟨?_, Nat.zero_le _⟩⟩
      obtain h | h := haltCpu_cases s <;> rw [h] <;> rfl
    · exact ⟨_, rfl, .inl ⟨rfl, Nat.zero_le _⟩⟩
    · exact ⟨_, rfl, .inl ⟨rfl, Nat.zero_le _⟩⟩
    · exact ⟨_, rfl, .inl ⟨rfl, Nat.zero_le _⟩⟩
    · have hpop := from_pop16 s
      obtain ⟨v, u, hu, ht⟩ | ⟨u, hu, ht⟩ := exec_reti s <;> rw [hu] at hpop
      · exact ⟨_, ht, .inl ⟨hpop.2, show 3 ≤ 5 by omega⟩⟩
      · exact ⟨_, ht, .inr ⟨hpop.2, hpop.1.ctl.pendingCycles⟩⟩

/-- The control state an instruction can change, by the instruction (R27 to R29). -/
structure ControlFrame (i : Instr) (c c' : Cpu) : Prop where
  ime : i ≠ .ei → i ≠ .reti → i ≠ .di → c'.ime = c.ime
  runState : i ≠ .halt → (∀ pad, i ≠ .stop pad) → c'.runState = c.runState
  haltBug : i ≠ .halt → c'.haltBug = c.haltBug
  opcodeAddr : c'.opcodeAddr = c.opcodeAddr

theorem CtlKept.controlFrame {c c' : Cpu} (h : CtlKept c c') (i : Instr) : ControlFrame i c c' :=
  ⟨fun _ _ _ => h.ime, fun _ _ => h.runState, fun _ => h.haltBug, h.opcodeAddr⟩

theorem Ends.controlFrame {s t : State} (h : Ends s t) (i : Instr) : ControlFrame i s.cpu t.cpu := by
  cases h with
  | done hreach hfault k hk =>
    obtain ⟨hime, hrun, hbug, haddr⟩ := hreach.ctl.controlFrame i
    exact ⟨hime, hrun, hbug, haddr⟩
  | stopped hreach hfault => exact hreach.ctl.controlFrame i

theorem exec_controlFrame {i : Instr} {s t : State} (h : exec i s = .next t) : ControlFrame i s.cpu t.cpu := by
  by_cases hi : Instr.control i = false
  · obtain ⟨u, hu, hends⟩ := exec_ends i s hi
    cases hu.symm.trans h
    exact hends.controlFrame i
  · obtain rfl | ⟨pad, rfl⟩ | rfl | rfl | rfl := Instr.control_cases hi
    · have ht : t = (haltCpu s).setPending 0 := by cases h; rfl
      obtain hh | hh := haltCpu_cases s <;> rw [ht, hh]
      · exact ⟨fun _ _ _ => rfl, fun hne => absurd rfl hne, fun hne => absurd rfl hne, rfl⟩
      · exact ⟨fun _ _ _ => rfl, fun hne => absurd rfl hne, fun hne => absurd rfl hne, rfl⟩
    · cases h
      exact ⟨fun _ _ _ => rfl, fun _ hne => absurd rfl (hne pad), fun _ => rfl, rfl⟩
    · cases h
      exact ⟨fun _ _ hne => absurd rfl hne, fun _ _ => rfl, fun _ => rfl, rfl⟩
    · cases h
      exact ⟨fun hne => absurd rfl hne, fun _ _ => rfl, fun _ => rfl, rfl⟩
    · have hpop := (from_pop16 s).reach.ctl
      obtain ⟨v, u, hu, ht⟩ | ⟨u, hu, ht⟩ := exec_reti s <;> cases ht.symm.trans h <;> rw [hu] at hpop
      · exact ⟨fun _ hne => absurd rfl hne, fun _ _ => hpop.runState, fun _ => hpop.haltBug, hpop.opcodeAddr⟩
      · exact hpop.controlFrame _

/-! ### What an operation writes in the register file -/

/-- The places of the register file a frame speaks of. -/
inductive Place where
  | reg (r : R8)
  | flags
  | sp

/-- From `s` to `t` every 8-bit register, F and SP are kept but for the places in `w`. -/
structure Writes (w : List Place) (s t : State) : Prop where
  reg : ∀ r, r ≠ .mHL → .reg r ∉ w → t.reg r = s.reg r
  flags : .flags ∉ w → t.cpu.f = s.cpu.f
  sp : .sp ∉ w → t.cpu.sp = s.cpu.sp

theorem Writes.trans {w : List Place} {s t u : State} (h : Writes w s t) (h' : Writes w t u) : Writes w s u :=
  ⟨fun r hr hw => (h'.reg r hr hw).trans (h.reg r hr hw), fun hw => (h'.flags hw).trans (h.flags hw),
    fun hw => (h'.sp hw).trans (h.sp hw)⟩

theorem Writes.mono {w w' : List Place} {s t : State} (h : Writes w s t) (hw : w ⊆ w') : Writes w' s t :=
  ⟨fun r hr hn => h.reg r hr fun hm => hn (hw hm), fun hn => h.flags fun hm => hn (hw hm),
    fun hn => h.sp fun hm => hn (hw hm)⟩

/-- With the CPU as it was nothing is written. -/
theorem Writes.of_cpu {w : List Place} {s t : State} (h : t.cpu = s.cpu) : Writes w s t :=
  ⟨fun r _ _ => by cases r <;> simp [State.reg, h], fun _ => by rw [h], fun _ => by rw [h]⟩

theorem Writes.refl (w : List Place) (s : State) : Writes w s s := .of_cpu rfl

theorem State.reg_setReg_other {r y : R8} (hr : r ≠ .mHL) (hy : r ≠ y) (s : State) (v : Byte) :
    (s.setReg y v).reg r = s.reg r := by
  cases y <;> cases r <;> first | rfl | exact absurd rfl hr | exact absurd rfl hy

section Updates

variable {w : List Place} (s : State)

theorem Writes.setReg {y : R8} (h : .reg y ∈ w) (v : Byte) : Writes w s (s.setReg y v) :=
  ⟨fun r hr hw => State.reg_setReg_other hr (fun hry => hw (hry ▸ h)) s v, fun _ => by cases y <;> rfl,
    fun _ => by cases y <;> rfl⟩

theorem Writes.setA (h : .reg .a ∈ w) (v : Byte) : Writes w s (s.setA v) := .setReg s h v

theorem Writes.setF (h : .flags ∈ w) (v : Byte) : Writes w s (s.setF v) :=
  ⟨fun r _ _ => by cases r <;> rfl, fun hw => absurd h hw, fun _ => rfl⟩

theorem Writes.setFlags (h : .flags ∈ w) (z n hc c : Bool) : Writes w s (s.setFlags z n hc c) := .setF s h _

theorem Writes.setSp (h : .sp ∈ w) (v : Word) : Writes w s (s.setSp v) :=
  ⟨fun r _ _ => by cases r <;> rfl, fun _ => rfl, fun hw => absurd h hw⟩

theorem Writes.setPc (v : Word) : Writes w s (s.setPc v) :=
  ⟨fun r _ _ => by cases r <;> rfl, fun _ => rfl, fun _ => rfl⟩

theorem Writes.setPending (v : Nat) : Writes w s (s.setPending v) :=
  ⟨fun r _ _ => by cases r <;> rfl, fun _ => rfl, fun _ => rfl⟩

theorem Writes.setIme (v : Bool) : Writes w s (s.setIme v) :=
  ⟨fun r _ _ => by cases r <;> rfl, fun _ => rfl, fun _ => rfl⟩

theorem Writes.setRunState (v : RunState) : Writes w s (s.setRunState v) :=
  ⟨fun r _ _ => by cases r <;> rfl, fun _ => rfl, fun _ => rfl⟩

theorem Writes.setHaltBug (v : Bool) : Writes w s (s.setHaltBug v) :=
  ⟨fun r _ _ => by cases r <;> rfl, fun _ => rfl, fun _ => rfl⟩

theorem Writes.setHl (hh : .reg .h ∈ w) (hl : .reg .l ∈ w) (v : Word) : Writes w s (s.setHl v) :=
  (Writes.setReg s hh _).trans (.setReg (y := .l) _ hl _)

/-- The places of a pair (R144). -/
def pairPlaces : R16 → List Place
  | .bc => [.reg .b, .reg .c]
  | .de => [.reg .d, .reg .e]
  | .hl => [.reg .h, .reg .l]
  | .sp => [.sp]

/-- The places of a pair of PUSH and POP (R145). -/
def stkPlaces : R16Stk → List Place
  | .bc => [.reg .b, .reg .c]
  | .de => [.reg .d, .reg .e]
  | .hl => [.reg .h, .reg .l]
  | .af => [.reg .a, .flags]

/-- The places the step of a pointer writes (R146). -/
def ptrPlaces : R16Mem → List Place
  | .bc | .de => []
  | .hlInc | .hlDec => [.reg .h, .reg .l]

theorem Writes.setPair (p : R16) (h : pairPlaces p ⊆ w) (v : Word) : Writes w s (s.setPair p v) := by
  cases p with
  | bc => exact (Writes.setReg (y := .b) s (h (by simp [pairPlaces])) _).trans (.setReg (y := .c) _ (h (by simp [pairPlaces])) _)
  | de => exact (Writes.setReg (y := .d) s (h (by simp [pairPlaces])) _).trans (.setReg (y := .e) _ (h (by simp [pairPlaces])) _)
  | hl => exact .setHl s (h (by simp [pairPlaces])) (h (by simp [pairPlaces])) v
  | sp => exact .setSp s (h (by simp [pairPlaces])) v

theorem Writes.setStkPair (p : R16Stk) (h : stkPlaces p ⊆ w) (v : Word) : Writes w s (s.setStkPair p v) := by
  cases p with
  | bc => exact .setPair s .bc h v
  | de => exact .setPair s .de h v
  | hl => exact .setPair s .hl h v
  | af => exact (Writes.setA s (h (by simp [stkPlaces])) _).trans (.setF _ (h (by simp [stkPlaces])) _)

theorem Writes.stepPtr (p : R16Mem) (h : ptrPlaces p ⊆ w) : Writes w s (s.stepPtr p) := by
  cases p with
  | bc | de => exact .refl w s
  | hlInc | hlDec => exact .setHl s (h (by simp [ptrPlaces])) (h (by simp [ptrPlaces])) _

theorem Writes.alu (ha : .reg .a ∈ w) (hf : .flags ∈ w) (op : AluOp) (x : Byte) : Writes w s (s.alu op x) := by
  unfold State.alu
  dsimp only
  split
  · exact .setFlags s hf _ _ _ _
  · exact (Writes.setA s ha _).trans (.setFlags _ hf _ _ _ _)

theorem Writes.rotateA (ha : .reg .a ∈ w) (hf : .flags ∈ w) (op : ShiftOp) : Writes w s (rotateA op s) :=
  (Writes.setA s ha _).trans (.setFlags _ hf _ _ _ _)

theorem Writes.addHl (hh : .reg .h ∈ w) (hl : .reg .l ∈ w) (hf : .flags ∈ w) (p : R16) : Writes w s (addHl p s) :=
  (Writes.setHl s hh hl _).trans (.setFlags _ hf _ _ _ _)

theorem Writes.haltCpu : Writes w s (haltCpu s) := by
  obtain h | h := haltCpu_cases s <;> rw [h]
  · exact .setRunState s _
  · exact .setHaltBug s _

end Updates

theorem Writes.bind {α β : Type} {w : List Place} {r : Res α} {f : α → State → Res β} {s : State} (h : Writes w s r.state)
    (hf : ∀ v t, Writes w t (f v t).state) : Writes w s (r.bind f).state :=
  Res.bind_induct (I := Writes w s) h fun v t ht => ht.trans (hf v t)

section Operations

variable {w : List Place} (s : State)

theorem Writes.busRead16 (a : Word) : Writes w s (busRead16 a s).state := .of_cpu (busRead_kept a.toNat s).cpu

theorem Writes.busWrite16 (a : Word) (v : Byte) : Writes w s (busWrite16 a v s).state :=
  .of_cpu (busWrite_kept a.toNat v s).cpu

theorem Writes.readR8 (r : R8) : Writes w s (readR8 r s).state := by
  cases r
  case mHL => exact .busRead16 s _
  all_goals exact .refl w s

theorem Writes.writeR8 {y : R8} (h : .reg y ∈ w) (v : Byte) : Writes w s (writeR8 y v s).state := by
  cases y
  case mHL => exact .busWrite16 s _ v
  all_goals exact .setReg s h v

theorem Writes.push16 (h : .sp ∈ w) (v : Word) : Writes w s (push16 v s).state :=
  .bind ((Writes.setSp s h _).trans (.busWrite16 _ _ _)) fun _ t => (Writes.setSp t h _).trans (.busWrite16 _ _ _)

theorem Writes.pop16 (h : .sp ∈ w) : Writes w s (pop16 s).state :=
  .bind (.busRead16 s _) fun _ t => .bind ((Writes.setSp t h _).trans (.busRead16 _ _)) fun _ u => .setSp u h _

theorem Writes.callTo (h : .sp ∈ w) (a : Word) : Writes w s (callTo a s).state :=
  .bind (.push16 s h _) fun _ t => .setPc t a

theorem Writes.ret (h : .sp ∈ w) : Writes w s (ret s).state := .bind (.pop16 s h) fun v t => .setPc t v

theorem Writes.returnFromInterrupt (h : .sp ∈ w) : Writes w s (returnFromInterrupt s).state :=
  .bind (.pop16 s h) fun v t => (Writes.setPc t v).trans (.setIme _ _)

theorem Writes.memWriteWord (a v : Word) : Writes w s (memWriteWord a v s).state :=
  .bind (.busWrite16 s _ _) fun _ t => .busWrite16 t _ _

theorem Writes.ld {y : R8} (h : .reg y ∈ w) (z : R8) : Writes w s (ld y z s).state :=
  .bind (.readR8 s z) fun v t => .writeR8 t h v

theorem Writes.loadA (h : .reg .a ∈ w) (a : Word) : Writes w s (loadA a s).state :=
  .bind (.busRead16 s a) fun v t => .setA t h v

theorem Writes.storeA (a : Word) : Writes w s (storeA a s).state := .busWrite16 s a _

theorem Writes.loadAPtr (p : R16Mem) (h : .reg .a ∈ w) (hp : ptrPlaces p ⊆ w) : Writes w s (loadAPtr p s).state :=
  .bind (.loadA s h _) fun _ t => .stepPtr t p hp

theorem Writes.storeAPtr (p : R16Mem) (hp : ptrPlaces p ⊆ w) : Writes w s (storeAPtr p s).state :=
  .bind (.storeA s _) fun _ t => .stepPtr t p hp

theorem Writes.aluR8 (ha : .reg .a ∈ w) (hf : .flags ∈ w) (op : AluOp) (z : R8) : Writes w s (aluR8 op z s).state :=
  .bind (.readR8 s z) fun x t => .alu t ha hf op x

theorem Writes.stepR8 {y : R8} (h : .reg y ∈ w) (hf : .flags ∈ w) (f : Byte → Bool → AluResult) :
    Writes w s (stepR8 f y s).state :=
  .bind (.readR8 s y) fun _ t => .bind ((Writes.setFlags t hf _ _ _ _).trans (.writeR8 _ h _)) fun _ u =>
    .setFlags u hf _ _ _ _

theorem Writes.shiftR8 {z : R8} (h : .reg z ∈ w) (hf : .flags ∈ w) (op : ShiftOp) : Writes w s (shiftR8 op z s).state :=
  .bind (.readR8 s z) fun _ t => .bind (.writeR8 t h _) fun _ u => .setFlags u hf _ _ _ _

theorem Writes.bitR8 (hf : .flags ∈ w) (b : Nat) (z : R8) : Writes w s (bitR8 b z s).state :=
  .bind (.readR8 s z) fun _ t => .setFlags t hf _ _ _ _

theorem Writes.resR8 {z : R8} (h : .reg z ∈ w) (b : Nat) : Writes w s (resR8 b z s).state :=
  .bind (.readR8 s z) fun _ t => .writeR8 t h _

theorem Writes.setR8 {z : R8} (h : .reg z ∈ w) (b : Nat) : Writes w s (setR8 b z s).state :=
  .bind (.readR8 s z) fun _ t => .writeR8 t h _

theorem Writes.whenCond {cc : Cond} {m n : Nat} {f : State → Res Unit} (h : Writes w s (f s).state) :
    Writes w s (whenCond cc m n f s).state := by
  unfold Machine.whenCond
  split
  · exact .bind h fun _ t => .refl w t
  · exact .refl w s

end Operations

theorem Writes.finish {w : List Place} {c : Nat} {r : Res Unit} {s t : State} (h : Writes w s r.state)
    (ht : finish c r = .next t) : Writes w s t := by
  cases r with
  | ok _ u => cases ht; exact h.trans (.setPending u _)
  | fatal u => cases ht; exact h

theorem Writes.finishWith {w : List Place} {r : Res Nat} {s t : State} (h : Writes w s r.state)
    (ht : finishWith r = .next t) : Writes w s t := by
  cases r with
  | ok _ u => cases ht; exact h.trans (.setPending u _)
  | fatal u => cases ht; exact h

/-- An operation that cannot be fatal, and its charge. -/
theorem Writes.done {w : List Place} {c : Nat} {s u t : State} (h : Writes w s u)
    (ht : (.next (u.setPending c) : Out) = .next t) : Writes w s t := by
  cases ht
  exact h.trans (.setPending u c)

/-! ### The table of what each instruction writes -/

/-- The places of the register file an instruction may write (R22, R24, R26), one row a shape; `prefix_CB` has none. -/
inductive Destinations : Instr → List Place → Prop where
  | ld (y z : R8) : Destinations (mkLd y z) [.reg y]
  | ldImm (y : R8) (n : Byte) : Destinations (mkLdImm y n) [.reg y]
  | loadA (p : R16Mem) : Destinations (mkLoadA p) (.reg .a :: ptrPlaces p)
  | storeA (p : R16Mem) : Destinations (mkStoreA p) (ptrPlaces p)
  | ld_A_ma16 (a : Word) : Destinations (.ld_A_ma16 a) [.reg .a]
  | ldh_A_ma8 (o : Byte) : Destinations (.ldh_A_ma8 o) [.reg .a]
  | ld_A_mC : Destinations .ld_A_mC [.reg .a]
  | ld_ma16_A (a : Word) : Destinations (.ld_ma16_A a) []
  | ldh_ma8_A (o : Byte) : Destinations (.ldh_ma8_A o) []
  | ld_mC_A : Destinations .ld_mC_A []
  | ld_ma16_SP (a : Word) : Destinations (.ld_ma16_SP a) []
  | alu (op : AluOp) (z : R8) : Destinations (mkAlu op z) [.reg .a, .flags]
  | aluImm (op : AluOp) (n : Byte) : Destinations (mkAluImm op n) [.reg .a, .flags]
  | daa : Destinations .daa [.reg .a, .flags]
  | cpl : Destinations .cpl [.reg .a, .flags]
  | scf : Destinations .scf [.flags]
  | ccf : Destinations .ccf [.flags]
  | rlca : Destinations .rlca [.reg .a, .flags]
  | rrca : Destinations .rrca [.reg .a, .flags]
  | rla : Destinations .rla [.reg .a, .flags]
  | rra : Destinations .rra [.reg .a, .flags]
  | inc8 (y : R8) : Destinations (mkInc8 y) [.reg y, .flags]
  | dec8 (y : R8) : Destinations (mkDec8 y) [.reg y, .flags]
  | addHl (p : R16) : Destinations (mkAddHl p) [.reg .h, .reg .l, .flags]
  | ldPairImm (p : R16) (n : Word) : Destinations (mkLdPairImm p n) (pairPlaces p)
  | inc16 (p : R16) : Destinations (mkInc16 p) (pairPlaces p)
  | dec16 (p : R16) : Destinations (mkDec16 p) (pairPlaces p)
  | ld_HL_SPe8 (e : Byte) : Destinations (.ld_HL_SPe8 e) [.reg .h, .reg .l, .flags]
  | add_SP_e8 (e : Byte) : Destinations (.add_SP_e8 e) [.sp, .flags]
  | ld_SP_HL : Destinations .ld_SP_HL [.sp]
  | push (p : R16Stk) : Destinations (mkPush p) [.sp]
  | pop (p : R16Stk) : Destinations (mkPop p) (.sp :: stkPlaces p)
  | shift (op : ShiftOp) (z : R8) : Destinations (mkShift op z) [.reg z, .flags]
  | bit (k : Fin 8) (z : R8) : Destinations (mkBit k z) [.flags]
  | res (k : Fin 8) (z : R8) : Destinations (mkRes k z) [.reg z]
  | set (k : Fin 8) (z : R8) : Destinations (mkSet k z) [.reg z]
  | jrCc (cc : Cond) (e : Byte) : Destinations (mkJrCc cc e) []
  | jpCc (cc : Cond) (a : Word) : Destinations (mkJpCc cc a) []
  | jr_e8 (e : Byte) : Destinations (.jr_e8 e) []
  | jp_a16 (a : Word) : Destinations (.jp_a16 a) []
  | jp_HL : Destinations .jp_HL []
  | callCc (cc : Cond) (a : Word) : Destinations (mkCallCc cc a) [.sp]
  | call_a16 (a : Word) : Destinations (.call_a16 a) [.sp]
  | rst (k : Fin 8) : Destinations (mkRst k) [.sp]
  | retCc (cc : Cond) : Destinations (mkRetCc cc) [.sp]
  | ret : Destinations .ret [.sp]
  | reti : Destinations .reti [.sp]
  | nop : Destinations .nop []
  | halt : Destinations .halt []
  | stop (pad : Byte) : Destinations (.stop pad) []
  | di : Destinations .di []
  | ei : Destinations .ei []
  | unknown (op : Byte) : Destinations (.unknown op) []

/-- An instruction writes no place of the register file but its destinations. -/
theorem exec_writes {i : Instr} {w : List Place} (hi : Destinations i w) {s t : State} (ht : exec i s = .next t) :
    Writes w s t := by
  cases hi with
  | ld y z =>
    by_cases hyz : y = .mHL ∧ z = .mHL
    · obtain ⟨rfl, rfl⟩ := hyz
      exact .done (c := 0) (.haltCpu s) ht
    · rw [exec_mkLd y z hyz] at ht
      exact .finish (.ld s (by simp) z) ht
  | ldImm y n => rw [exec_mkLdImm] at ht; exact .finish (.writeR8 s (by simp) n) ht
  | loadA p => rw [exec_mkLoadA] at ht; exact .finish (.loadAPtr s p (by simp) (by simp)) ht
  | storeA p => rw [exec_mkStoreA] at ht; exact .finish (.storeAPtr s p (by simp)) ht
  | ld_A_ma16 a => exact .finish (c := 4) (.loadA s (by simp) a) ht
  | ldh_A_ma8 o => exact .finish (c := 3) (.loadA s (by simp) _) ht
  | ld_A_mC => exact .finish (c := 2) (.loadA s (by simp) _) ht
  | ld_ma16_A a => exact .finish (c := 4) (.storeA s a) ht
  | ldh_ma8_A o => exact .finish (c := 3) (.storeA s _) ht
  | ld_mC_A => exact .finish (c := 2) (.storeA s _) ht
  | ld_ma16_SP a => exact .finish (c := 5) (.memWriteWord s a _) ht
  | alu op z => rw [exec_mkAlu] at ht; exact .finish (.aluR8 s (by simp) (by simp) op z) ht
  | aluImm op n => rw [exec_mkAluImm] at ht; exact .finish (.alu s (by simp) (by simp) op n) ht
  | daa => exact .done (c := 0) ((Writes.setA s (by simp) _).trans (.setFlags _ (by simp) _ _ _ _)) ht
  | cpl => exact .done (c := 0) ((Writes.setA s (by simp) _).trans (.setFlags _ (by simp) _ _ _ _)) ht
  | scf => exact .done (c := 0) (.setFlags s (by simp) _ _ _ _) ht
  | ccf => exact .done (c := 0) (.setFlags s (by simp) _ _ _ _) ht
  | rlca => exact .done (c := 0) (.rotateA s (by simp) (by simp) .rlc) ht
  | rrca => exact .done (c := 0) (.rotateA s (by simp) (by simp) .rrc) ht
  | rla => exact .done (c := 0) (.rotateA s (by simp) (by simp) .rl) ht
  | rra => exact .done (c := 0) (.rotateA s (by simp) (by simp) .rr) ht
  | inc8 y => rw [exec_mkInc8] at ht; exact .finish (.stepR8 s (by simp) (by simp) _) ht
  | dec8 y => rw [exec_mkDec8] at ht; exact .finish (.stepR8 s (by simp) (by simp) _) ht
  | addHl p => rw [exec_mkAddHl] at ht; exact .finish (.addHl s (by simp) (by simp) (by simp) p) ht
  | ldPairImm p n => rw [exec_mkLdPairImm] at ht; exact .finish (.setPair s p (by simp) n) ht
  | inc16 p => rw [exec_mkInc16] at ht; exact .finish (.setPair s p (by simp) _) ht
  | dec16 p => rw [exec_mkDec16] at ht; exact .finish (.setPair s p (by simp) _) ht
  | ld_HL_SPe8 e =>
    exact .done (c := 2) ((Writes.setHl s (by simp) (by simp) _).trans (.setFlags _ (by simp) _ _ _ _)) ht
  | add_SP_e8 e => exact .done (c := 3) ((Writes.setSp s (by simp) _).trans (.setFlags _ (by simp) _ _ _ _)) ht
  | ld_SP_HL => exact .done (c := 1) (.setSp s (by simp) _) ht
  | push p => rw [exec_mkPush] at ht; exact .finish (.push16 s (by simp) _) ht
  | pop p =>
    rw [exec_mkPop] at ht
    exact .finish (.bind (.pop16 s (by simp)) fun v u => .setStkPair u p (by simp) v) ht
  | shift op z => rw [exec_mkShift] at ht; exact .finish (.shiftR8 s (by simp) (by simp) op) ht
  | bit k z => rw [exec_mkBit] at ht; exact .finish (.bitR8 s (by simp) k z) ht
  | res k z => rw [exec_mkRes] at ht; exact .finish (.resR8 s (by simp) k) ht
  | set k z => rw [exec_mkSet] at ht; exact .finish (.setR8 s (by simp) k) ht
  | jrCc cc e => rw [exec_mkJrCc] at ht; exact .finishWith (.whenCond s (.setPc s _)) ht
  | jpCc cc a => rw [exec_mkJpCc] at ht; exact .finishWith (.whenCond s (.setPc s _)) ht
  | jr_e8 e => exact .done (c := 2) (.setPc s _) ht
  | jp_a16 a => exact .done (c := 3) (.setPc s a) ht
  | jp_HL => exact .done (c := 0) (.setPc s _) ht
  | callCc cc a => rw [exec_mkCallCc] at ht; exact .finishWith (.whenCond s (.callTo s (by simp) a)) ht
  | call_a16 a => exact .finish (c := 6) (.callTo s (by simp) a) ht
  | rst k => rw [exec_mkRst] at ht; exact .finish (.callTo s (by simp) _) ht
  | retCc cc => rw [exec_mkRetCc] at ht; exact .finishWith (.whenCond s (.ret s (by simp))) ht
  | ret => exact .finish (c := 4) (.ret s (by simp)) ht
  | reti => exact .finish (c := 4) (.returnFromInterrupt s (by simp)) ht
  | nop => exact .done (c := 0) (.refl _ s) ht
  | halt => exact .done (c := 0) (.haltCpu s) ht
  | stop pad => exact .done (c := 0) (.setRunState s _) ht
  | di => exact .done (c := 0) (.setIme s _) ht
  | ei => exact .done (c := 0) (.setIme s _) ht
  | unknown op => cases ht; exact .of_cpu rfl

/-! ### The frames of the instructions -/

/-- No row of the table for a pair names F. -/
theorem flags_notMem_pairPlaces (p : R16) : .flags ∉ pairPlaces p := by cases p <;> simp [pairPlaces]

theorem flags_notMem_ptrPlaces (p : R16Mem) : .flags ∉ ptrPlaces p := by cases p <;> simp [ptrPlaces]

theorem sp_notMem_ptrPlaces (p : R16Mem) : .sp ∉ ptrPlaces p := by cases p <;> simp [ptrPlaces]

/-- The step of a pointer writes H and L at most, and those only where it moves HL. -/
theorem reg_notMem_ptrPlaces {p : R16Mem} {r : R8} (h : p = .hlInc ∨ p = .hlDec → r ≠ .h ∧ r ≠ .l) :
    .reg r ∉ ptrPlaces p := by
  cases p with
  | bc | de => simp [ptrPlaces]
  | hlInc => simpa [ptrPlaces] using h (.inl rfl)
  | hlDec => simpa [ptrPlaces] using h (.inr rfl)

/-- Settles O24: shape by shape, the row of the table of destinations. -/
theorem registerFrame : Obligations.RegisterFrame := by
  intro s t r hr
  refine ⟨?ld, ?ldImm, ?loadA, ?storeA, ?loadAddr, ?storeAddr, ?alu, ?step8, ?addHl, ?pair, ?hlSp, ?spOnly, ?push, ?pop,
    ?writeBack, ?bit, ?jump, ?call, ?system⟩
  case ld =>
    intro y z ht
    have h := exec_writes (.ld y z) ht
    exact ⟨fun hy => h.reg r hr (by simpa using hy), h.sp (by simp)⟩
  case ldImm =>
    intro y n ht
    have h := exec_writes (.ldImm y n) ht
    exact ⟨fun hy => h.reg r hr (by simpa using hy), h.sp (by simp)⟩
  case loadA =>
    intro p ht
    have h := exec_writes (.loadA p) ht
    exact ⟨fun ha hp => h.reg r hr (by simp [ha, reg_notMem_ptrPlaces hp]), h.sp (by simp [sp_notMem_ptrPlaces])⟩
  case storeA =>
    intro p ht
    have h := exec_writes (.storeA p) ht
    exact ⟨fun hp => h.reg r hr (reg_notMem_ptrPlaces hp), h.sp (sp_notMem_ptrPlaces p)⟩
  case loadAddr =>
    intro i a o hi ht
    have h : Writes [.reg .a] s t := by
      obtain rfl | rfl | rfl := hi
      · exact exec_writes (.ld_A_ma16 a) ht
      · exact exec_writes (.ldh_A_ma8 o) ht
      · exact exec_writes .ld_A_mC ht
    exact ⟨fun ha => h.reg r hr (by simpa using ha), h.sp (by simp)⟩
  case storeAddr =>
    intro i a o hi ht
    have h : Writes [] s t := by
      obtain rfl | rfl | rfl | rfl := hi
      · exact exec_writes (.ld_ma16_A a) ht
      · exact exec_writes (.ldh_ma8_A o) ht
      · exact exec_writes .ld_mC_A ht
      · exact exec_writes (.ld_ma16_SP a) ht
    exact ⟨h.reg r hr (by simp), h.sp (by simp)⟩
  case alu =>
    intro op z n i hi ht
    have h : Writes [.reg .a, .flags] s t := by
      obtain rfl | rfl | rfl | rfl | rfl | rfl | rfl | rfl | rfl | rfl := hi
      · exact exec_writes (.alu op z) ht
      · exact exec_writes (.aluImm op n) ht
      · exact exec_writes .daa ht
      · exact exec_writes .cpl ht
      · exact (exec_writes .scf ht).mono (by simp)
      · exact (exec_writes .ccf ht).mono (by simp)
      · exact exec_writes .rlca ht
      · exact exec_writes .rrca ht
      · exact exec_writes .rla ht
      · exact exec_writes .rra ht
    exact ⟨fun ha => h.reg r hr (by simpa using ha), h.sp (by simp)⟩
  case step8 =>
    intro y i hi ht
    have h : Writes [.reg y, .flags] s t := by
      obtain rfl | rfl := hi
      · exact exec_writes (.inc8 y) ht
      · exact exec_writes (.dec8 y) ht
    exact ⟨fun hy => h.reg r hr (by simpa using hy), h.sp (by simp)⟩
  case addHl =>
    intro p ht
    have h := exec_writes (.addHl p) ht
    exact ⟨fun hh hl => h.reg r hr (by simp [hh, hl]), h.sp (by simp)⟩
  case pair =>
    intro p n i hi ht
    have h : Writes (pairPlaces p) s t := by
      obtain rfl | rfl | rfl := hi
      · exact exec_writes (.ldPairImm p n) ht
      · exact exec_writes (.inc16 p) ht
      · exact exec_writes (.dec16 p) ht
    refine ⟨?_, ?_, ?_, ?_⟩ <;> rintro rfl
    · exact ⟨fun hb hc => h.reg r hr (by simp [pairPlaces, hb, hc]), h.sp (by simp [pairPlaces])⟩
    · exact ⟨fun hd he => h.reg r hr (by simp [pairPlaces, hd, he]), h.sp (by simp [pairPlaces])⟩
    · exact ⟨fun hh hl => h.reg r hr (by simp [pairPlaces, hh, hl]), h.sp (by simp [pairPlaces])⟩
    · exact h.reg r hr (by simp [pairPlaces])
  case hlSp =>
    intro e ht
    have h := exec_writes (.ld_HL_SPe8 e) ht
    exact ⟨fun hh hl => h.reg r hr (by simp [hh, hl]), h.sp (by simp)⟩
  case spOnly =>
    intro e i hi ht
    obtain rfl | rfl := hi
    · exact (exec_writes (.add_SP_e8 e) ht).reg r hr (by simp)
    · exact (exec_writes .ld_SP_HL ht).reg r hr (by simp)
  case push => exact fun p ht => (exec_writes (.push p) ht).reg r hr (by simp)
  case pop =>
    intro p ht
    have h := exec_writes (.pop p) ht
    refine ⟨?_, ?_, ?_, ?_⟩ <;> rintro rfl
    · exact fun hb hc => h.reg r hr (by simp [stkPlaces, hb, hc])
    · exact fun hd he => h.reg r hr (by simp [stkPlaces, hd, he])
    · exact fun hh hl => h.reg r hr (by simp [stkPlaces, hh, hl])
    · exact fun ha => h.reg r hr (by simp [stkPlaces, ha])
  case writeBack =>
    intro op k z i hi ht
    have h : Writes [.reg z, .flags] s t := by
      obtain rfl | rfl | rfl := hi
      · exact exec_writes (.shift op z) ht
      · exact (exec_writes (.res k z) ht).mono (by simp)
      · exact (exec_writes (.set k z) ht).mono (by simp)
    exact ⟨fun hz => h.reg r hr (by simpa using hz), h.sp (by simp)⟩
  case bit =>
    intro k z ht
    have h := exec_writes (.bit k z) ht
    exact ⟨h.reg r hr (by simp), h.sp (by simp)⟩
  case jump =>
    intro cc a e i hi ht
    have h : Writes [] s t := by
      obtain rfl | rfl | rfl | rfl | rfl := hi
      · exact exec_writes (.jrCc cc e) ht
      · exact exec_writes (.jpCc cc a) ht
      · exact exec_writes (.jr_e8 e) ht
      · exact exec_writes (.jp_a16 a) ht
      · exact exec_writes .jp_HL ht
    exact ⟨h.reg r hr (by simp), h.sp (by simp)⟩
  case call =>
    intro cc a k i hi ht
    have h : Writes [.sp] s t := by
      obtain rfl | rfl | rfl | rfl | rfl | rfl := hi
      · exact exec_writes (.callCc cc a) ht
      · exact exec_writes (.call_a16 a) ht
      · exact exec_writes (.rst k) ht
      · exact exec_writes (.retCc cc) ht
      · exact exec_writes .ret ht
      · exact exec_writes .reti ht
    exact h.reg r hr (by simp)
  case system =>
    intro i pad op hi ht
    have h : Writes [] s t := by
      obtain rfl | rfl | rfl | rfl | rfl | rfl := hi
      · exact exec_writes .nop ht
      · exact exec_writes .halt ht
      · exact exec_writes (.stop pad) ht
      · exact exec_writes .di ht
      · exact exec_writes .ei ht
      · exact exec_writes (.unknown op) ht
    exact ⟨h.reg r hr (by simp), h.sp (by simp)⟩

/-- The instructions that name no flag. -/
theorem destinations_without_flags {i : Instr} {y z : R8} {n : Byte} {p : R16} {q : R16Stk} {m : R16Mem} {a : Word} {o : Byte}
    {cc : Cond} {e : Byte} {k : Fin 8} {pad op : Byte}
    (hi : i ∈ [mkLd y z, mkLdImm y n, mkLoadA m, mkStoreA m, .ld_A_ma16 a, .ld_ma16_A a, .ldh_A_ma8 o, .ldh_ma8_A o, .ld_A_mC,
      .ld_mC_A, mkLdPairImm p a, .ld_ma16_SP a, .ld_SP_HL, mkPush q, mkInc16 p, mkDec16 p, mkRes k z, mkSet k z, mkJrCc cc e,
      mkJpCc cc a, mkCallCc cc a, mkRetCc cc, mkRst k, .jr_e8 e, .jp_a16 a, .jp_HL, .call_a16 a, .ret, .reti, .nop, .halt,
      .stop pad, .di, .ei, .unknown op] ∨ (i = mkPop q ∧ q ≠ .af)) : ∃ w, Destinations i w ∧ .flags ∉ w := by
  simp only [List.mem_cons, List.not_mem_nil, or_false] at hi
  obtain (rfl | rfl | rfl | rfl | rfl | rfl | rfl | rfl | rfl | rfl | rfl | rfl | rfl | rfl | rfl | rfl | rfl | rfl | rfl |
    rfl | rfl | rfl | rfl | rfl | rfl | rfl | rfl | rfl | rfl | rfl | rfl | rfl | rfl | rfl | rfl) | ⟨rfl, hq⟩ := hi
  · exact ⟨_, .ld y z, by simp⟩
  · exact ⟨_, .ldImm y n, by simp⟩
  · exact ⟨_, .loadA m, by simp [flags_notMem_ptrPlaces]⟩
  · exact ⟨_, .storeA m, flags_notMem_ptrPlaces m⟩
  · exact ⟨_, .ld_A_ma16 a, by simp⟩
  · exact ⟨_, .ld_ma16_A a, by simp⟩
  · exact ⟨_, .ldh_A_ma8 o, by simp⟩
  · exact ⟨_, .ldh_ma8_A o, by simp⟩
  · exact ⟨_, .ld_A_mC, by simp⟩
  · exact ⟨_, .ld_mC_A, by simp⟩
  · exact ⟨_, .ldPairImm p a, flags_notMem_pairPlaces p⟩
  · exact ⟨_, .ld_ma16_SP a, by simp⟩
  · exact ⟨_, .ld_SP_HL, by simp⟩
  · exact ⟨_, .push q, by simp⟩
  · exact ⟨_, .inc16 p, flags_notMem_pairPlaces p⟩
  · exact ⟨_, .dec16 p, flags_notMem_pairPlaces p⟩
  · exact ⟨_, .res k z, by simp⟩
  · exact ⟨_, .set k z, by simp⟩
  · exact ⟨_, .jrCc cc e, by simp⟩
  · exact ⟨_, .jpCc cc a, by simp⟩
  · exact ⟨_, .callCc cc a, by simp⟩
  · exact ⟨_, .retCc cc, by simp⟩
  · exact ⟨_, .rst k, by simp⟩
  · exact ⟨_, .jr_e8 e, by simp⟩
  · exact ⟨_, .jp_a16 a, by simp⟩
  · exact ⟨_, .jp_HL, by simp⟩
  · exact ⟨_, .call_a16 a, by simp⟩
  · exact ⟨_, .ret, by simp⟩
  · exact ⟨_, .reti, by simp⟩
  · exact ⟨_, .nop, by simp⟩
  · exact ⟨_, .halt, by simp⟩
  · exact ⟨_, .stop pad, by simp⟩
  · exact ⟨_, .di, by simp⟩
  · exact ⟨_, .ei, by simp⟩
  · exact ⟨_, .unknown op, by simp⟩
  · refine ⟨_, .pop q, ?_⟩
    cases q with
    | af => exact absurd rfl hq
    | bc | de | hl => simp [stkPlaces]

/-- Settles O25: the flags by the table of destinations, the control state by `exec_controlFrame`, the rest because an
instruction acts outside the CPU through the Bus only. -/
theorem flagAndControlFrame : Obligations.FlagAndControlFrame := by
  refine ⟨fun s t i ht hi => ?_, fun i s t ht => ?_⟩
  · obtain ⟨y, z, n, p, q, m, a, o, cc, e, k, pad, op, hi⟩ := hi
    obtain ⟨w, hw, hflags⟩ := destinations_without_flags hi
    exact (exec_writes hw ht).flags hflags
  · obtain ⟨hime, hrun, hbug, haddr⟩ := exec_controlFrame ht
    obtain ⟨u, hu, hreach⟩ := exec_reach i s
    cases hu.symm.trans ht
    exact ⟨hime, hrun, hbug, haddr, hreach.kept⟩

end Sys2Proof.Machine

/-! PROOFS. The front framebuffer: nothing before the Video unit's step changes it, a swap comes only with the back one as it was,
and the Video unit's step draws in the back one. -/

namespace Sys2Proof.Machine

/-! ### What a step does to the framebuffers before the Video unit's turn -/

/-- The two framebuffers keep their roles and the front one its contents; the back one and the place in the line are as they
were, or the LCD was switched off and the line is at its start (R455, R463). -/
structure FrontKept (v v' : Video) : Prop where
  frontSel : v'.frontSel = v.frontSel
  front : v'.front = v.front
  back : (v'.back = v.back ∧ v'.lineT = v.lineT) ∨ v'.lineT = 0

theorem FrontKept.refl (v : Video) : FrontKept v v := ⟨rfl, rfl, .inl ⟨rfl, rfl⟩⟩

theorem FrontKept.trans {v v' v'' : Video} (h : FrontKept v v') (h' : FrontKept v' v'') : FrontKept v v'' := by
  refine ⟨h'.frontSel.trans h.frontSel, h'.front.trans h.front, ?_⟩
  obtain ⟨hback, hline⟩ | hzero := h'.back
  · rw [hback, hline]
    exact h.back
  · exact .inr hzero

/-- A write to LCDC draws in no framebuffer but when it switches the LCD off (R459, R463). -/
theorem writeLcdc_frontKept (b : Byte) (s : State) : FrontKept s.video (writeLcdc b s).video := by
  rw [writeLcdc_video]
  split
  · exact ⟨Video.setBack_frontSel s.video [], Video.setBack_front s.video [], .inr rfl⟩
  · split
    · exact ⟨rfl, rfl, .inl ⟨rfl, rfl⟩⟩
    · exact ⟨rfl, rfl, .inl ⟨rfl, rfl⟩⟩

theorem IoEffect.frontKept {v : Byte} {s : State} {off : Nat} {r : Res Unit} (h : IoEffect v s off r) :
    FrontKept s.video r.state.video := by
  cases h with
  | lcdc => exact writeLcdc_frontKept v s
  | lyc =>
    show FrontKept s.video (compareLyc (s.setIoRaw 0x45 v)).video
    rw [compareLyc_video]
    exact ⟨rfl, rfl, .inl ⟨rfl, rfl⟩⟩
  | hdma h =>
    obtain ⟨x, hx⟩ | ⟨e, hx⟩ := writeHdma_cases v s <;> rw [hx] <;> exact .refl s.video
  | _ => exact ⟨rfl, rfl, .inl ⟨rfl, rfl⟩⟩

theorem busWrite_frontKept (a : Nat) (v : Byte) (s : State) : FrontKept s.video (busWrite a v s).state.video := by
  have h := busWrite_effect a v s
  generalize busWrite a v s = r at h
  cases h with
  | io off r _ _ he => exact he.frontKept
  | _ => exact .refl s.video

theorem busRead_frontKept (a : Nat) (s : State) : FrontKept s.video (busRead a s).state.video := by
  obtain ⟨v, h⟩ | ⟨v, h⟩ | ⟨e, h⟩ := busRead_cases a s <;> rw [h] <;> exact .refl s.video

theorem Reach.frontKept {P : Cpu → Cpu → Prop} {s t : State} (h : Reach P s t) : FrontKept s.video t.video :=
  h.induct (I := fun t => FrontKept s.video t.video) (fun _ _ _ ht => ht)
    (fun t a ht => ht.trans (busRead_frontKept a t)) (fun t a v ht => ht.trans (busWrite_frontKept a v t))
    (fun _ _ ht => ht) (.refl s.video)

theorem Acts.frontKept {P : Cpu → Cpu → Prop} {s t : State} (h : Acts P s t) : FrontKept s.video t.video := by
  induction h with
  | refl => exact .refl s.video
  | reach _ hr ih => exact ih.trans hr.frontKept
  | io _ off v ih => exact ih.trans (ioWrite_effect _ v _).frontKept
  | timer _ _ ih | intFlag _ _ ih | buttons _ _ ih | host _ _ ih => exact ih

theorem transferStep_frontKept (s : State) : FrontKept s.video (transferStep s).state.video :=
  transferStep_induct (I := fun t => FrontKept s.video t.video) (fun t a ht => ht.trans (busRead_frontKept a t))
    (fun t a v ht => ht.trans (busWrite_frontKept a v t)) (fun _ _ ht => ht) (fun _ _ ht => ht) (.refl s.video)

/-! ### The Video unit's step -/

/-- The front framebuffer is as it was, or the two have exchanged roles with their contents as they were (R45, R455). -/
def FrontStable (v v' : Video) : Prop :=
  (v'.frontSel = v.frontSel ∧ v'.front = v.front) ∨
    (v'.frontSel = !v.frontSel ∧ v'.back = v.front ∧ v'.front = v.back)

theorem FrontKept.stable {v v' : Video} (h : FrontKept v v') : FrontStable v v' := .inl ⟨h.frontSel, h.front⟩

/-- Turning `frontSel` over exchanges the two framebuffers. -/
theorem Video.swap_stable {v v' : Video} (hsel : v'.frontSel = !v.frontSel) (h0 : v'.fb0 = v.fb0) (h1 : v'.fb1 = v.fb1) :
    FrontStable v v' := by
  refine .inr ⟨hsel, ?_, ?_⟩
  · unfold Video.back Video.front
    rw [hsel, h0, h1]
    cases v.frontSel <;> rfl
  · unfold Video.back Video.front
    rw [hsel, h0, h1]
    cases v.frontSel <;> rfl

/-- A scanning cycle swaps at the end of line 153 and else draws in the back framebuffer only (R453, R480). -/
theorem scanStep_stable (s : State) :
    FrontStable s.video (scanStep s).video ∧
      ((scanStep s).video.frontSel ≠ s.video.frontSel → s.video.lineT + 1 = 114) := by
  rw [scanStep_video]
  split
  · next hend =>
    split
    · exact ⟨Video.swap_stable rfl rfl rfl, fun _ => hend⟩
    · exact ⟨.inl ⟨rfl, rfl⟩, fun _ => hend⟩
  · split
    · exact ⟨.inl ⟨rfl, rfl⟩, fun h => absurd rfl h⟩
    · split
      · rw [renderLine_video]
        have hsel := Video.setBack_frontSel { s.video with lineT := s.video.lineT + 1 }
        have hfront := Video.setBack_front { s.video with lineT := s.video.lineT + 1 }
        exact ⟨.inl ⟨hsel _, hfront _⟩, fun h => absurd (hsel _) h⟩
      · exact ⟨.inl ⟨rfl, rfl⟩, fun h => absurd rfl h⟩

theorem videoStep_stable (s : State) :
    FrontStable s.video (videoStep s).video ∧
      ((videoStep s).video.frontSel ≠ s.video.frontSel → s.video.lineT + 1 = 114) := by
  unfold videoStep
  split
  · split
    · rw [delayStep_video]
      split
      · exact ⟨.inl ⟨rfl, rfl⟩, fun h => absurd rfl h⟩
      · exact ⟨.inl ⟨rfl, rfl⟩, fun h => absurd rfl h⟩
    · exact scanStep_stable s
  · exact ⟨.inl ⟨rfl, rfl⟩, fun h => absurd rfl h⟩

/-- The Video unit's step after the rest of the tick: at a swap the line is at its end, so the LCD was not switched off. -/
theorem FrontKept.videoStep {v : Video} {s : State} (h : FrontKept v s.video) : FrontStable v (videoStep s).video := by
  obtain ⟨⟨hsel, hfront⟩ | ⟨hsel, hback, hfront⟩, hswap⟩ := videoStep_stable s
  · exact .inl ⟨hsel.trans h.frontSel, hfront.trans h.front⟩
  · have hend : s.video.lineT + 1 = 114 := hswap (by rw [hsel]; cases s.video.frontSel <;> simp)
    obtain ⟨hkept, -⟩ | hzero := h.back
    · exact .inr ⟨by rw [hsel, h.frontSel], hback.trans h.front, hfront.trans hkept⟩
    · omega

/-! ### The step -/

theorem cpuSteps_frontKept {s t : State} (hstep : cpuSteps s = .next t) : FrontKept s.video t.video := by
  unfold cpuSteps at hstep
  split at hstep
  · obtain ht | ⟨u, hu, -, ht⟩ := goOn_cases hstep
    · exact (cpuStep_acts ht).frontKept
    · exact (cpuStep_acts hu).frontKept.trans (cpuStep_acts ht).frontKept
  · exact (cpuStep_acts hstep).frontKept

theorem peripherals_stable {v : Video} {s t : State} (h : FrontKept v s.video) (hstep : peripherals s = .next t) :
    FrontStable v t.video := by
  have hkept := h.trans (transferStep_frontKept s)
  unfold peripherals at hstep
  cases hr : transferStep s with
  | ok _ u => rw [hr] at hstep hkept; cases hstep; exact hkept.videoStep
  | fatal u => rw [hr] at hstep hkept; cases hstep; exact hkept.stable

theorem systemTick_stable {v : Video} {s t : State} (h : FrontKept v s.video) (hstep : systemTick s = .next t) :
    FrontStable v t.video := by
  unfold systemTick at hstep
  split at hstep
  · cases hstep
    exact h.stable
  · obtain ht | ⟨u, hu, -, ht⟩ := goOn_cases hstep
    · exact (h.trans (cpuSteps_frontKept ht)).stable
    · exact peripherals_stable (h.trans (cpuSteps_frontKept hu)) ht

theorem step_stable {s t : State} (hstep : step s = .next t) : FrontStable s.video t.video := by
  have hturn := (hostTurn_acts s).frontKept
  unfold step at hstep
  split at hstep
  · cases hstep
    exact (FrontKept.refl _).stable
  · cases hr : hostTurn s with
    | ok _ u => rw [hr] at hstep hturn; exact systemTick_stable hturn hstep
    | fatal u => rw [hr] at hstep hturn; cases hstep; exact hturn.stable

/-- Settles O53: `step_stable`, read by whether the roles changed. -/
theorem frontBufferIsStable : Obligations.FrontBufferIsStable := by
  intro s t hstep
  obtain ⟨hsel, hfront⟩ | ⟨hsel, hback, hfront⟩ := step_stable hstep
  · exact ⟨fun _ => hfront, fun h => absurd hsel h⟩
  · refine ⟨fun h => ?_, fun _ => ⟨hback, hfront⟩⟩
    rw [hsel] at h
    cases hs : s.video.frontSel <;> simp [hs] at h

end Sys2Proof.Machine

/-! PROOFS. The opcode fetch; that the register file is the CPU's own; the first CPU step; the fetch of an instruction whose bytes
stand at PC, and the step that runs it. -/

namespace Sys2Proof.Machine

/-! ### The opcode fetch -/

/-- What an observer reads does not depend on the count of free values: a free value is never observed. -/
theorem peek_drawFree (s : State) (a : Nat) : s.drawFree.peek a = s.peek a := by
  have hio (off : Nat) : ioPeek off s.drawFree = ioPeek off s := by
    unfold ioPeek
    split <;> rfl
  have hram : s.drawFree.cartRamMapped = s.cartRamMapped := rfl
  unfold State.peek busRead
  rw [State.drawFree_banks]
  cases locate s.banks a with
  | cartRom0 off | cartRomX off => cases hc : s.cartLoaded <;> simp [cartRead, hc]
  | cartRam off =>
    cases hc : s.cartLoaded <;> cases hm : s.cartRamMapped <;> simp [cartRead, cartRamRead, hram, hc, hm]
  | io off => cases ha : isAudio off <;> simp [ioRead, hio, ha]
  | _ => simp

theorem peek_of_busRead16 {a : Word} {s t : State} {v : Byte} (h : busRead16 a s = .ok v t) (b : Nat) : t.peek b = s.peek b := by
  obtain rfl | rfl := busRead_ok h
  · rfl
  · exact peek_drawFree s b

/-- Settles O42: the fetch is one read, which leaves the CPU and what is observed. -/
theorem opcodeFetchAndHaltBug : Obligations.OpcodeFetchAndHaltBug := by
  intro s t op
  have hfetch {v : Byte} {u : State} (hu : busRead16 s.cpu.pc s = .ok v u) :
      fetchOpcode s = .ok v (if s.cpu.haltBug then (u.setOpcodeAddr s.cpu.pc).setHaltBug false
        else (u.setOpcodeAddr s.cpu.pc).setPc (s.cpu.pc + 1)) := by
    unfold fetchOpcode
    simp only [hu, Res.bind_ok, State.setOpcodeAddr_cpu_haltBug, busRead16_ok_cpu hu]
  refine ⟨fun hu hbug => ?_, fun hu hbug => ?_, fun hu => ?_, fun ht hbug => ?_⟩
  · rw [hfetch hu, hbug]; rfl
  · rw [hfetch hu, hbug]; rfl
  · unfold fetchOpcode
    simp only [hu, Res.bind_fatal]
  · cases hu : busRead16 s.cpu.pc s with
    | fatal u => simp [fetchOpcode, hu] at ht
    | ok v u =>
      rw [hfetch hu, if_pos hbug] at ht
      cases ht
      refine ⟨?_, rfl, ?_⟩
      · show u.cpu.pc = s.cpu.pc
        rw [busRead16_ok_cpu hu]
      · exact (peek_withCpu u _ _).trans (peek_of_busRead16 hu _)

/-! ### The register file -/

/-- Settles O46: each of the other agents acts through the Bus and on its own state. -/
theorem otherAgentsKeepTheCpu : Obligations.OtherAgentsKeepTheCpu := fun s =>
  ⟨timerStep_cpu s, videoStep_cpu s, transferStep_cpu s, (hostTurn_acts s).cpu_eq, fun a v => (busWrite_kept a v s).cpu⟩

/-- Settles O3: the halves of a word and the word of two halves are those of arithmetic. -/
theorem pairViewsWriteBothHalves : Obligations.PairViewsWriteBothHalves := by
  intro s v
  have hhi := hi8_eq_ofNat v
  have hlo := lo8_eq_ofNat v
  refine ⟨word16_toNat _ _, word16_toNat _ _, word16_toNat _ _, word16_toNat _ _, ?_, ?_, ?_, ?_, word16_hi8_lo8 v,
    word16_hi8_lo8 v, word16_hi8_lo8 v, low_setF _⟩
  all_goals rw [← hhi, ← hlo]
  all_goals rfl

/-! ### The first CPU step -/

/-- A CPU step with no cycle pending, nothing to dispatch and the CPU RUNNING fetches (R176, R177). -/
theorem cpuStep_eq_fetchExecute {s u : State} (hbegin : cpuBegin s = .ok () u) (hp : u.cpu.pendingCycles = 0)
    (hd : interruptDispatch u = .ok 0 u) (hr : u.cpu.runState = .running) : cpuStep s = fetchExecute u := by
  have hwait : waitStates u = .fetch u := by
    unfold waitStates
    rw [hr]
  have hprologue : cpuPrologue s = .fetch u := by
    unfold cpuPrologue afterPending
    simp only [hbegin, hp, hd, hwait, Nat.lt_irrefl, if_false, gt_iff_lt]
  unfold cpuStep
  rw [hprologue]

theorem interruptDispatch_of_not_ime {s : State} (h : s.cpu.ime = false) : interruptDispatch s = .ok 0 s := by
  unfold interruptDispatch
  rw [h]
  rfl

theorem cpuBegin_launch {l : Launch} {u : State} (h : resetToRunning (State.launch l) = .ok () u) :
    cpuBegin (State.launch l) = .ok () (u.setRunState .running) := by
  unfold cpuBegin
  rw [if_pos (show (State.launch l).cpu.runState = .reset from rfl), h]
  rfl

/-- Without a boot ROM, and with no power-up I/O write, the reset work loads the power-up registers (R62). -/
theorem resetToRunning_launch_of_no_boot {l : Launch} (hboot : l.bootRom = none)
    (hio : (l.params.powerUp l.mode).ioWrites = []) : resetToRunning (State.launch l) =
      .ok () ((loadPowerUp (l.params.powerUp l.mode) (State.launch l)).setPc l.params.entryPoint) := by
  have hloaded : ¬(State.launch l).bootLoaded = true := by
    show ¬l.bootRom.isSome = true
    simp [hboot]
  unfold resetToRunning
  rw [if_neg hloaded]
  show (applyIoWrites (l.params.powerUp l.mode).ioWrites (loadPowerUp (l.params.powerUp l.mode) (State.launch l))).bind
    (fun _ t => .ok () (t.setPc t.params.entryPoint)) = _
  rw [hio, loadPowerUp_eq]
  rfl

/-- With one it sets PC only (R63). -/
theorem resetToRunning_launch_of_boot {l : Launch} (hboot : l.bootRom ≠ none) :
    resetToRunning (State.launch l) = .ok () ((State.launch l).setPc 0x0000) :=
  if_pos (Option.isSome_iff_ne_none.mpr hboot)

/-- Settles O58: the reset work by cases of the boot ROM, then the fetch of the same step. -/
theorem firstStepResetsToRunning : Obligations.FirstStepResetsToRunning := by
  intro l s p
  have hp : p = l.params.powerUp l.mode := by
    show (match l.mode with | .dmg => l.params.powerUpDmg | .cgb => l.params.powerUpCgb) = _
    cases l.mode <;> rfl
  clear_value p
  subst hp
  refine ⟨fun hboot hio => ?_, fun hboot => ?_⟩
  · have hbegin := cpuBegin_launch (resetToRunning_launch_of_no_boot hboot hio)
    rw [loadPowerUp_eq] at hbegin
    exact cpuStep_eq_fetchExecute hbegin rfl (interruptDispatch_of_not_ime rfl) rfl
  · exact cpuStep_eq_fetchExecute (cpuBegin_launch (resetToRunning_launch_of_boot hboot)) rfl
      (interruptDispatch_of_not_ime rfl) rfl

/-! ### The bytes of an instruction -/

/-- The bytes of `i` are `op` and the operand bytes its length asks for, and decode to `i`. -/
structure FetchedAs (i : Instr) (op : Byte) (bs : List Byte) : Prop where
  bytes : encode i = op :: bs
  length : opLength op = bs.length + 1
  decoded : decodeFetched op bs = i

/-- Every well-formed instruction is fetched as its encoding, but for the bare first byte of the alternate table (log entry 12). -/
theorem exists_fetchedAs {i : Instr} (hw : i.wellFormed = true) (hp : i ≠ .prefix_CB) : ∃ op bs, FetchedAs i op bs := by
  cases i.shape with
  | ld y z _ => cases y <;> cases z <;> exact ⟨_, _, rfl, rfl, rfl⟩
  | alu op z => cases op <;> cases z <;> exact ⟨_, _, rfl, rfl, rfl⟩
  | aluImm op n => cases op <;> exact ⟨_, _, rfl, rfl, rfl⟩
  | inc8 y => cases y <;> exact ⟨_, _, rfl, rfl, rfl⟩
  | dec8 y => cases y <;> exact ⟨_, _, rfl, rfl, rfl⟩
  | ldImm y n => cases y <;> exact ⟨_, _, rfl, rfl, rfl⟩
  | ldPairImm p a =>
    have hword := congrArg (mkLdPairImm p) (word16_hi8_lo8 a)
    cases p <;> exact ⟨_, _, rfl, rfl, hword⟩
  | addHl p => cases p <;> exact ⟨_, _, rfl, rfl, rfl⟩
  | inc16 p => cases p <;> exact ⟨_, _, rfl, rfl, rfl⟩
  | dec16 p => cases p <;> exact ⟨_, _, rfl, rfl, rfl⟩
  | storeA p => cases p <;> exact ⟨_, _, rfl, rfl, rfl⟩
  | loadA p => cases p <;> exact ⟨_, _, rfl, rfl, rfl⟩
  | push p => cases p <;> exact ⟨_, _, rfl, rfl, rfl⟩
  | pop p => cases p <;> exact ⟨_, _, rfl, rfl, rfl⟩
  | jrCc cc n => cases cc <;> exact ⟨_, _, rfl, rfl, rfl⟩
  | jpCc cc a =>
    have hword := congrArg (mkJpCc cc) (word16_hi8_lo8 a)
    cases cc <;> exact ⟨_, _, rfl, rfl, hword⟩
  | callCc cc a =>
    have hword := congrArg (mkCallCc cc) (word16_hi8_lo8 a)
    cases cc <;> exact ⟨_, _, rfl, rfl, hword⟩
  | retCc cc => cases cc <;> exact ⟨_, _, rfl, rfl, rfl⟩
  | rst k => match k with | 0 | 1 | 2 | 3 | 4 | 5 | 6 | 7 => exact ⟨_, _, rfl, rfl, rfl⟩
  | shift op z => cases op <;> cases z <;> exact ⟨_, _, rfl, rfl, rfl⟩
  | bit k z => match k with | 0 | 1 | 2 | 3 | 4 | 5 | 6 | 7 => cases z <;> exact ⟨_, _, rfl, rfl, rfl⟩
  | res k z => match k with | 0 | 1 | 2 | 3 | 4 | 5 | 6 | 7 => cases z <;> exact ⟨_, _, rfl, rfl, rfl⟩
  | set k z => match k with | 0 | 1 | 2 | 3 | 4 | 5 | 6 | 7 => cases z <;> exact ⟨_, _, rfl, rfl, rfl⟩
  | ld_ma16_SP a => exact ⟨_, _, rfl, rfl, congrArg Instr.ld_ma16_SP (word16_hi8_lo8 a)⟩
  | jp_a16 a => exact ⟨_, _, rfl, rfl, congrArg Instr.jp_a16 (word16_hi8_lo8 a)⟩
  | call_a16 a => exact ⟨_, _, rfl, rfl, congrArg Instr.call_a16 (word16_hi8_lo8 a)⟩
  | ld_ma16_A a => exact ⟨_, _, rfl, rfl, congrArg Instr.ld_ma16_A (word16_hi8_lo8 a)⟩
  | ld_A_ma16 a => exact ⟨_, _, rfl, rfl, congrArg Instr.ld_A_ma16 (word16_hi8_lo8 a)⟩
  | prefix_CB => exact absurd rfl hp
  | unknown op =>
    have hop : op ∈ unknownBytes := List.contains_iff_mem.mp hw
    simp only [unknownBytes, List.mem_cons, List.not_mem_nil, or_false] at hop
    obtain rfl | rfl | rfl | rfl | rfl | rfl | rfl | rfl | rfl | rfl | rfl := hop <;> exact ⟨_, _, rfl, rfl, rfl⟩
  | _ => exact ⟨_, _, rfl, rfl, rfl⟩

/-! ### The fetch -/

/-- A read that draws no free value gives the same byte whatever the CPU's state. -/
theorem busRead16_withCpu {a : Word} {s : State} {v : Byte} (h : busRead16 a s = .ok v s) (c : Cpu) :
    busRead16 a (s.withCpu c) = .ok v (s.withCpu c) := by
  unfold busRead16 at *
  rw [busRead_withCpu, h]
  rfl

/-- The bytes from PC on read as `bs`, and no read draws a free value. -/
def ReadsFrom (pc : Word) (bs : List Byte) (s : State) : Prop :=
  ∀ (k : Nat) (h : k < bs.length), busRead16 (pc + BitVec.ofNat 16 k) s = .ok bs[k] s

theorem add_ofNat_succ (pc : Word) (k : Nat) : pc + 1 + BitVec.ofNat 16 k = pc + BitVec.ofNat 16 (k + 1) := by
  rw [BitVec.add_assoc, Nat.add_comm k 1, BitVec.ofNat_add]
  rfl

theorem ReadsFrom.head {pc : Word} {b : Byte} {bs : List Byte} {s : State} (h : ReadsFrom pc (b :: bs) s) :
    busRead16 pc s = .ok b s := by
  have h0 := h 0 (by simp)
  rwa [BitVec.add_zero] at h0

theorem ReadsFrom.tail {pc : Word} {b : Byte} {bs : List Byte} {s : State} (h : ReadsFrom pc (b :: bs) s) :
    ReadsFrom (pc + 1) bs s := by
  intro k hk
  rw [add_ofNat_succ]
  exact h (k + 1) (by simpa using hk)

theorem ReadsFrom.withCpu {pc : Word} {bs : List Byte} {s : State} (h : ReadsFrom pc bs s) (c : Cpu) :
    ReadsFrom pc bs (s.withCpu c) := fun k hk => busRead16_withCpu (h k hk) c

/-- The operand bytes at PC are fetched in order, and PC moves past them (R147). -/
theorem operandBytes_of_reads (bs : List Byte) (s : State) (h : ReadsFrom s.cpu.pc bs s) :
    operandBytes bs.length s = .ok bs (s.setPc (s.cpu.pc + BitVec.ofNat 16 bs.length)) := by
  induction bs generalizing s with
  | nil =>
    show Res.ok [] s = .ok [] (s.setPc (s.cpu.pc + 0#16))
    rw [BitVec.add_zero]
    rfl
  | cons b bs ih =>
    have himm : imm8 s = .ok b (s.setPc (s.cpu.pc + 1)) := by
      unfold imm8
      rw [h.head]
      rfl
    have hrest := ih (s.setPc (s.cpu.pc + 1)) (h.tail.withCpu _)
    show (imm8 s).bind _ = _
    rw [himm, Res.bind_ok, hrest, Res.bind_ok, State.setPc_cpu_pc, add_ofNat_succ]
    rfl

/-- An instruction whose bytes stand at PC is the one fetched (R141, R177). -/
theorem fetch_of_reads {i : Instr} {op : Byte} {bs : List Byte} {s : State} (hi : FetchedAs i op bs)
    (hbug : s.cpu.haltBug = false) (h : ReadsFrom s.cpu.pc (op :: bs) s) :
    fetch s = .ok i ((s.setOpcodeAddr s.cpu.pc).setPc (s.cpu.pc + BitVec.ofNat 16 (bs.length + 1))) := by
  have hop : fetchOpcode s = .ok op ((s.setOpcodeAddr s.cpu.pc).setPc (s.cpu.pc + 1)) :=
    (opcodeFetchAndHaltBug s s op).1 h.head hbug
  have hoperands := operandBytes_of_reads bs ((s.setOpcodeAddr s.cpu.pc).setPc (s.cpu.pc + 1)) (h.tail.withCpu _)
  have hlen : opLength op - 1 = bs.length := by rw [hi.length]; rfl
  unfold fetch
  rw [hop, Res.bind_ok, hlen, hoperands, Res.bind_ok, hi.decoded, State.setPc_cpu_pc, add_ofNat_succ]
  rfl

/-! ### The step -/

/-- With no source both pending and enabled nothing is dispatched (R360). -/
theorem interruptDispatch_of_none {s : State} (h : s.ints.enabled &&& s.ints.pending = 0) :
    interruptDispatch s = .ok 0 s := by
  have hnone : s.firstDispatchable = none := by
    simp [State.firstDispatchable, State.dispatchable, h]
  unfold interruptDispatch
  rw [hnone]
  split <;> rfl

/-- A step with no move of the host and one CPU step to a tick (R170). -/
theorem step_of_idle_host {s : State} (hf : s.fault = none) (hh : s.host = []) (hd : s.doubleSpeed = false) :
    step s = goOn (cpuStep s) peripherals := by
  have hturn : hostTurn s = .ok () s := by
    unfold hostTurn
    rw [hh]
  have hno : ¬s.fault.isSome = true := by simp [hf]
  unfold step systemTick cpuSteps
  rw [if_neg hno, hturn]
  show (if s.fault.isSome = true then _ else goOn (if s.doubleSpeed = true then _ else cpuStep s) peripherals) = _
  rw [if_neg hno, hd]
  rfl

/-- Settles O43: the prologue ends at the fetch, and the bytes at PC are those of `i`. -/
theorem stepRunsTheDecodedInstruction : Obligations.StepRunsTheDecodedInstruction := by
  intro i s hw hp hf hh hd hrun hpend hbug s1 hints hreads
  obtain ⟨op, bs, hi⟩ := exists_fetchedAs hw hp
  have hcpu : s1.cpu = s.cpu := timerStep_cpu s
  have hbegin : cpuBegin s = .ok () s1 := by
    unfold cpuBegin
    rw [if_neg (by simp [hrun])]
  have hdispatch : interruptDispatch s1 = .ok 0 s1 := by
    obtain hime | hnone := hints
    · exact interruptDispatch_of_not_ime hime
    · exact interruptDispatch_of_none hnone
  have hfetch : fetch s1 = .ok i ((s1.setOpcodeAddr s1.cpu.pc).setPc (s1.cpu.pc + BitVec.ofNat 16 (bs.length + 1))) := by
    refine fetch_of_reads hi (by rw [hcpu, hbug]) ?_
    rw [hcpu, ← hi.bytes]
    exact hreads
  rw [step_of_idle_host hf hh hd,
    cpuStep_eq_fetchExecute hbegin (by rw [hcpu, hpend]) hdispatch (by rw [hcpu, hrun])]
  unfold fetchExecute
  rw [hfetch, hcpu, hi.bytes]
  rfl

end Sys2Proof.Machine

/-! PROOFS. The Bus, region by region: what each region of the address map reads as, which accesses are fatal, what a read
leaves; then the I/O registers, offset by offset. -/

namespace Sys2Proof.Machine

/-! ### Reads and writes by region -/

/-- Outside the boot ROM's shadow (R77, R116). -/
theorem boot_of_not_shadowed {b : Banks} {a : Nat} (h : ¬(a ≤ 0x00FF ∧ b.bootRomEnabled = true)) :
    b.bootRomEnabled = false ∨ 0x0100 ≤ a := by
  cases hb : b.bootRomEnabled with
  | false => exact .inl rfl
  | true => exact .inr (Nat.lt_of_not_le fun hle => h ⟨hle, hb⟩)

section Regions

variable (s : State) {a : Nat}

theorem busRead_bootRom (h : a ≤ 0x00FF) (hb : s.banks.bootRomEnabled = true) :
    busRead a s = .ok (s.mem.bootRom.read a) s := by
  unfold busRead
  rw [locate_bootRom h hb]

theorem busRead_cartRom0 (h : a ≤ 0x3FFF) (hb : s.banks.bootRomEnabled = false ∨ 0x0100 ≤ a) :
    busRead a s = cartRead a s (.ok (s.mem.cartRom0.read a) s) := by
  unfold busRead
  rw [locate_cartRom0 h hb]

theorem busRead_cartRomX (h : 0x4000 ≤ a) (h' : a ≤ 0x7FFF) :
    busRead a s = cartRead a s (.ok (s.mem.cartRomX.read (0x4000 * s.banks.cart.romBank.toNat + (a - 0x4000))) s) := by
  unfold busRead
  rw [locate_cartRomX h h', Nat.mul_comm]

theorem busRead_vram (h : 0x8000 ≤ a) (h' : a ≤ 0x9FFF) :
    busRead a s = .ok (s.mem.vram.read (0x2000 * s.banks.vramBank.toNat + (a - 0x8000))) s := by
  unfold busRead
  rw [locate_vram h h', Nat.mul_comm]

theorem busRead_cartRam (h : 0xA000 ≤ a) (h' : a ≤ 0xBFFF) :
    busRead a s = cartRead a s (cartRamRead (0x2000 * s.banks.cart.ramBank.toNat + (a - 0xA000)) s) := by
  unfold busRead
  rw [locate_cartRam h h', Nat.mul_comm]

theorem busRead_wram0 (h : 0xC000 ≤ a) (h' : a ≤ 0xCFFF) : busRead a s = .ok (s.mem.wram.read (a - 0xC000)) s := by
  unfold busRead
  rw [locate_wram0 h h']

theorem busRead_wramX (h : 0xD000 ≤ a) (h' : a ≤ 0xDFFF) :
    busRead a s = .ok (s.mem.wram.read (0x1000 * s.banks.wramBank.toNat + (a - 0xD000))) s := by
  unfold busRead
  rw [locate_wramX h h', Nat.mul_comm]

theorem busRead_oam (h : 0xFE00 ≤ a) (h' : a ≤ 0xFE9F) : busRead a s = .ok (s.mem.oam.read (a - 0xFE00)) s := by
  unfold busRead
  rw [locate_oam h h']

theorem busRead_gap (h : 0xFEA0 ≤ a) (h' : a ≤ 0xFEFF) : busRead a s = .ok s.params.gapReadValue s := by
  unfold busRead
  rw [locate_gap h h']

theorem busRead_hram (h : 0xFF80 ≤ a) (h' : a ≤ 0xFFFE) : busRead a s = .ok (s.mem.hram.read (a - 0xFF80)) s := by
  unfold busRead
  rw [locate_hram h h']

theorem busRead_ie : busRead 0xFFFF s = .ok (readInt s.ints.enabled) s := by
  unfold busRead
  rw [locate_ie rfl]

theorem busRead_outside (h : 0x10000 ≤ a) : busRead a s = .fatal (s.setFault (.outOfRange a)) := by
  unfold busRead
  rw [locate_outside h]
  rfl

theorem busWrite_outside (h : 0x10000 ≤ a) (v : Byte) : busWrite a v s = .fatal (s.setFault (.outOfRange a)) := by
  unfold busWrite
  rw [locate_outside h]
  rfl

theorem busWrite_bootRom (h : a ≤ 0x00FF) (hb : s.banks.bootRomEnabled = true) (v : Byte) :
    busWrite a v s = .fatal (s.setFault (.notWritable a)) := by
  unfold busWrite
  rw [locate_bootRom h hb]
  rfl

/-- A write to a cartridge ROM address not shadowed by the boot ROM (R77, R78). -/
theorem busWrite_cartRom (h : a ≤ 0x7FFF) (hb : ¬(a ≤ 0x00FF ∧ s.banks.bootRomEnabled = true)) (v : Byte) :
    busWrite a v s = cartRomWrite a v s := by
  unfold busWrite
  by_cases hlow : a ≤ 0x3FFF
  · rw [locate_cartRom0 hlow (boot_of_not_shadowed hb)]
  · rw [locate_cartRomX (by omega) h]

theorem busWrite_cartRam (h : 0xA000 ≤ a) (h' : a ≤ 0xBFFF) (v : Byte) :
    busWrite a v s = cartRamWrite a (0x2000 * s.banks.cart.ramBank.toNat + (a - 0xA000)) v s := by
  unfold busWrite
  rw [locate_cartRam h h', Nat.mul_comm]

theorem busRead_io {off : Nat} (h : off ≤ 0x7F) : busRead (0xFF00 + off) s = ioRead off s := by
  unfold busRead
  rw [locate_io (by omega) (by omega), Nat.add_sub_cancel_left]

theorem busWrite_io {off : Nat} (h : off ≤ 0x7F) (v : Byte) : busWrite (0xFF00 + off) v s = ioWrite off v s := by
  unfold busWrite
  rw [locate_io (by omega) (by omega), Nat.add_sub_cancel_left]

theorem cartRead_of_loaded (h : s.cartLoaded = true) (r : Res Byte) : cartRead a s r = r := if_pos h

theorem cartRead_of_not_loaded (h : s.cartLoaded = false) (r : Res Byte) :
    cartRead a s r = .fatal (s.setFault (.notAvailable a)) := if_neg (by simp [h])

theorem cartRamRead_of_mapped {off : Nat} (h : s.cartRamMapped = true) :
    cartRamRead off s = .ok (s.mem.cartRam.read off) s := if_pos h

end Regions

/-- The region of work RAM (R80, R81). -/
theorem exists_locate_wram (b : Banks) {a : Nat} (h : 0xC000 ≤ a) (h' : a ≤ 0xDFFF) : ∃ off, locate b a = .wram off := by
  by_cases hlow : a ≤ 0xCFFF
  · exact ⟨_, locate_wram0 h hlow⟩
  · exact ⟨_, locate_wramX (by omega) h'⟩

/-- A read of the echo is the read 0x2000 below it (R81). -/
theorem busRead_echo (s : State) {a : Nat} (h : 0xC000 ≤ a) (h' : a ≤ 0xDDFF) : busRead (a + 0x2000) s = busRead a s := by
  obtain ⟨off, hoff⟩ := exists_locate_wram s.banks h (by omega)
  unfold busRead
  rw [locate_echo s.banks h h', hoff]

/-- A write to the echo is the write 0x2000 below it (R81). -/
theorem busWrite_echo (s : State) {a : Nat} (h : 0xC000 ≤ a) (h' : a ≤ 0xDDFF) (v : Byte) :
    busWrite (a + 0x2000) v s = busWrite a v s := by
  obtain ⟨off, hoff⟩ := exists_locate_wram s.banks h (by omega)
  unfold busWrite
  rw [locate_echo s.banks h h', hoff]

/-- Settles O30: region by region, then the echo. -/
theorem busReadByRegion : Obligations.BusReadByRegion := by
  refine ⟨fun s a => ⟨busRead_bootRom s, fun h hb hc => ?_, fun h h' hc => ?_, busRead_vram s, fun h h' hc hp hr => ?_,
    busRead_wram0 s, busRead_wramX s, busRead_oam s, busRead_gap s, busRead_hram s, busRead_ie s⟩,
    fun a v s h h' => ⟨busRead_echo s h h', busWrite_echo s h h' v⟩⟩
  · rw [busRead_cartRom0 s h hb, cartRead_of_loaded s hc]
  · rw [busRead_cartRomX s h h', cartRead_of_loaded s hc]
  · rw [busRead_cartRam s h h', cartRead_of_loaded s hc, cartRamRead_of_mapped s (by simp [State.cartRamMapped, hp, hr])]

/-! ### Which accesses are fatal -/

/-- An access to the cartridge's ROM, not shadowed by the boot ROM, or to its RAM window (R77, R78). -/
def State.isCartridge (s : State) (a : Nat) : Prop :=
  (a ≤ 0x7FFF ∧ ¬(a ≤ 0x00FF ∧ s.banks.bootRomEnabled = true)) ∨ (0xA000 ≤ a ∧ a ≤ 0xBFFF)

/-- Without a cartridge no access to it ends well (R78). -/
theorem busRead_isCartridge_of_not_loaded {s : State} {a : Nat} (h : s.isCartridge a) (hc : s.cartLoaded = false) :
    busRead a s = .fatal (s.setFault (.notAvailable a)) := by
  obtain ⟨hrom, hshadow⟩ | ⟨hlo, hhi⟩ := h
  · by_cases hlow : a ≤ 0x3FFF
    · rw [busRead_cartRom0 s hlow (boot_of_not_shadowed hshadow), cartRead_of_not_loaded s hc]
    · rw [busRead_cartRomX s (by omega) hrom, cartRead_of_not_loaded s hc]
  · rw [busRead_cartRam s hlo hhi, cartRead_of_not_loaded s hc]

/-- Nor does a write. -/
theorem busWrite_isCartridge_of_not_loaded {s : State} {a : Nat} (h : s.isCartridge a) (hc : s.cartLoaded = false) (v : Byte) :
    busWrite a v s = .fatal (s.setFault (.notAvailable a)) := by
  obtain ⟨hrom, hshadow⟩ | ⟨hlo, hhi⟩ := h
  · rw [busWrite_cartRom s hrom hshadow]
    exact if_neg (by simp [hc])
  · rw [busWrite_cartRam s hlo hhi]
    exact if_neg (by simp [hc])

/-- A read inside the address space ends well, if the cartridge it asks for is there (R71, R78). -/
theorem busRead_ends_well {s : State} {a : Nat} (ha : a < 0x10000) (hc : s.isCartridge a → s.cartLoaded = true) :
    ∃ v t, busRead a s = .ok v t := by
  by_cases hcart : s.isCartridge a
  · obtain ⟨hrom, hshadow⟩ | ⟨hlo, hhi⟩ := id hcart
    · by_cases hlow : a ≤ 0x3FFF
      · exact ⟨_, _, (busRead_cartRom0 s hlow (boot_of_not_shadowed hshadow)).trans (cartRead_of_loaded s (hc hcart) _)⟩
      · exact ⟨_, _, (busRead_cartRomX s (by omega) hrom).trans (cartRead_of_loaded s (hc hcart) _)⟩
    · rw [busRead_cartRam s hlo hhi, cartRead_of_loaded s (hc hcart)]
      unfold cartRamRead
      split <;> exact ⟨_, _, rfl⟩
  · by_cases hhigh : 0xC000 ≤ a
    · exact busRead_total s hhigh (by omega)
    · by_cases hvram : 0x8000 ≤ a
      · exact ⟨_, _, busRead_vram s hvram (by unfold State.isCartridge at hcart; omega)⟩
      · have hshadow : a ≤ 0x00FF ∧ s.banks.bootRomEnabled = true := by
          by_contra hb
          exact hcart (.inl ⟨by omega, hb⟩)
        exact ⟨_, _, busRead_bootRom s hshadow.1 hshadow.2⟩

/-- A write to an I/O offset other than 0x55 ends well (R92, R432). -/
theorem ioWrite_ends_well (s : State) {off : Nat} (h : off ≠ 0x55) (v : Byte) : ∃ t, ioWrite off v s = .ok () t := by
  have heffect := ioWrite_effect off v s
  generalize ioWrite off v s = r at heffect
  cases heffect with
  | hdma => exact absurd rfl h
  | _ => exact ⟨_, rfl⟩

/-- A write inside the address space, not to ROM, ends well, if the cartridge it asks for is there (R72, R78). -/
theorem busWrite_ends_well {s : State} {a : Nat} (ha : a < 0x10000) (hrom : 0x8000 ≤ a)
    (hc : 0xA000 ≤ a ∧ a ≤ 0xBFFF → s.cartLoaded = true) (hne : a ≠ 0xFF55) (v : Byte) : ∃ t, busWrite a v s = .ok () t := by
  have howns := locate_owns s.banks a
  have hecho := unEcho_cases a
  unfold busWrite
  split <;> rename_i hloc <;> rw [hloc] at howns <;> simp only [Region.owns] at howns
  case h_5 off =>
    unfold cartRamWrite
    rw [if_pos (hc (by omega))]
    split <;> exact ⟨_, rfl⟩
  case h_9 off => exact ioWrite_ends_well s (by omega) v
  case h_1 | h_2 | h_3 | h_12 => exfalso; omega
  all_goals exact ⟨_, rfl⟩

/-- Settles O31: outside the address space, without a cartridge, and ROM by the hook; then that every other access ends well. -/
theorem fatalBusAccesses : Obligations.FatalBusAccesses := by
  intro s a v shadow rom ram
  have hrom (h : rom) : busWrite a v s = cartRomWrite a v s := busWrite_cartRom s h.1 h.2 v
  refine ⟨fun h => ⟨busRead_outside s h, busWrite_outside s h v⟩,
    fun h hc => ⟨busRead_isCartridge_of_not_loaded h hc, busWrite_isCartridge_of_not_loaded h hc v⟩,
    fun h => busWrite_bootRom s h.1 h.2 v, fun h hc hw => ?_, fun h hc hw => ?_, fun h hc hw => ⟨fun hn => ?_, fun w hs => ?_⟩,
    fun ha hc => busRead_ends_well ha hc, fun ha hshadow hnrom hc hne => ?_, fun n hn => ⟨if_pos hn, if_pos hn⟩⟩
  · simp [hrom h, cartRomWrite, hc, hw]
  · simp [hrom h, cartRomWrite, hc, hw]
  · simp [hrom h, cartRomWrite, hc, hw, hn]
  · simp [hrom h, cartRomWrite, hc, hw, hs]
  · exact busWrite_ends_well ha (by by_contra hlt; exact hnrom ⟨by omega, hshadow⟩) hc hne v

/-! ### What a read leaves -/

/-- A read that draws a free value is of an audio register or of cartridge RAM that is not mapped (R112; log entries 6, 9). -/
theorem busRead_draws {a : Nat} {s : State} {v : Byte} (h : busRead a s = .ok v s.drawFree) :
    (0xFF10 ≤ a ∧ a ≤ 0xFF3F) ∨ (0xA000 ≤ a ∧ a ≤ 0xBFFF ∧ s.cartRamMapped = false) := by
  have hne : s ≠ s.drawFree := fun he => by simpa using congrArg State.freeDraws he
  have howns := locate_owns s.banks a
  have hecho := unEcho_cases a
  have hself (w : Byte) : (.ok w s : Res Byte) ≠ .ok v s.drawFree := fun he => hne (Res.ok.inj he).2
  unfold busRead at h
  split at h <;> rename_i hloc <;> rw [hloc] at howns <;> simp only [Region.owns] at howns
  case h_2 | h_3 =>
    unfold cartRead at h
    split at h
    · exact absurd h (hself _)
    · cases h
  case h_5 off =>
    unfold cartRead cartRamRead at h
    split at h
    · split at h
      · exact absurd h (hself _)
      · next hmapped => exact .inr ⟨by omega, by omega, by simpa using hmapped⟩
    · cases h
  case h_9 off =>
    unfold ioRead at h
    split at h
    · next haudio =>
      have hoff := of_decide_eq_true haudio
      exact .inl (by omega)
    · exact absurd h (hself _)
  case h_12 => cases h
  all_goals exact absurd h (hself _)

/-- Settles O32: `busRead_ok` and `busRead_fatal`, and where a free value is drawn. -/
theorem readsHaveNoSideEffect : Obligations.ReadsHaveNoSideEffect := by
  intro a s t
  refine ⟨fun v h => ?_, busRead_fatal⟩
  obtain rfl | rfl := busRead_ok h
  · exact .inl rfl
  · exact .inr ⟨rfl, busRead_draws h⟩

end Sys2Proof.Machine

/-! PROOFS. The I/O registers, offset by offset: what each reads as and what a write to each does. -/

namespace Sys2Proof.Machine

/-! ### The bit forms of the registers -/

/-- The register forms are sums of their fields (R105, R106, R107, R114). -/
theorem readTac_eq (t : Timer) : t.readTac = BitVec.ofNat 8 (0xF8 + (if t.running then 4 else 0) + t.rate.toNat) := by
  have h : ∀ (b : Bool) (r : BitVec 2), (0xF8 ||| ((BitVec.ofBool b).setWidth 8 <<< 2) ||| r.setWidth 8 : Byte) =
      BitVec.ofNat 8 (0xF8 + (if b then 4 else 0) + r.toNat) := by decide
  exact h t.running t.rate

theorem readInt_eq (v : BitVec 5) : readInt v = BitVec.ofNat 8 (0xE0 + v.toNat) := by
  revert v
  decide

theorem toByte_eq (c : Lcdc) : c.toByte = BitVec.ofNat 8 (
    (if c.lcdOn then 128 else 0) + (if c.winMap then 64 else 0) + (if c.winEn then 32 else 0) +
    (if c.tileData then 16 else 0) + (if c.bgMap then 8 else 0) + (if c.objSize then 4 else 0) +
    (if c.objEn then 2 else 0) + (if c.bgEn then 1 else 0)) := by
  obtain ⟨b7, b6, b5, b4, b3, b2, b1, b0⟩ := c
  revert b7 b6 b5 b4 b3 b2 b1 b0
  decide

theorem vbk_eq (v : BitVec 1) : (0xFE ||| v.setWidth 8 : Byte) = BitVec.ofNat 8 (0xFE + v.toNat) := by
  revert v
  decide

/-- STAT bit 2 and its mode number (R108, R452). -/
theorem readStat_eq (s : State) : readStat s = 0x80 ||| (s.ioRaw 0x41 &&& 0x78) ||| (if s.video.coincidence then 0x04 else 0x00) |||
    (match s.video.mode with | .hblank => 0 | .vblank => 1 | .oamSearch => 2 | .pixelTransfer => 3) := by
  unfold readStat State.statRaw
  cases s.video.coincidence <;> cases s.video.mode <;> rfl

/-- A line of the joypad is low while a button of a selected group is pressed (R100). -/
def joypLow (sel : Byte) (buttons : BitVec 8) (k : Nat) : Bool :=
  (!sel.getLsbD 4 && buttons.getLsbD k) || (!sel.getLsbD 5 && buttons.getLsbD (4 + k))

theorem nibble_eq (n : BitVec 4) : n.setWidth 8 = BitVec.ofNat 8 (15 - (List.range 4).foldl (fun m k => m +
    (if !n.getLsbD k then 2 ^ k else 0)) 0) := by
  revert n
  decide

/-- One line of a joypad group. -/
theorem getLsbD_joypLines (select : Bool) (pressed : BitVec 4) {k : Nat} (h : k < 4) :
    (joypLines select pressed).getLsbD k = !(!select && pressed.getLsbD k) := by
  cases select with
  | true =>
    have hall : ∀ k < 4, (0xF : BitVec 4).getLsbD k = true := by decide
    exact hall k h
  | false => simp [joypLines, h]

theorem readJoyp_eq (s : State) : readJoyp s = 0xC0 ||| (s.ioRaw 0x00 &&& 0x30) |||
    BitVec.ofNat 8 (15 - (List.range 4).foldl (fun n k => n + (if joypLow (s.ioRaw 0x00) s.buttons k then 2 ^ k else 0)) 0) := by
  unfold readJoyp
  dsimp only
  rw [nibble_eq]
  congr 3
  refine List.foldl_ext _ _ _ fun n k hk => ?_
  have hk : k < 4 := List.mem_range.mp hk
  congr 2
  rw [BitVec.getLsbD_and, getLsbD_joypLines _ _ hk, getLsbD_joypLines _ _ hk]
  simp [joypLow, hk]

theorem hdmaStatus_eq (h : HdmaTransfer) : h.status = if h.active then
      (if h.stopped then 0x80 else 0x00) ||| BitVec.ofNat 8 ((h.len - h.copied + 15) / 16 - 1)
    else 0xFF := by
  unfold HdmaTransfer.status
  cases h.stopped <;> rfl

theorem key1_eq (d : Bool) (r : Byte) : (((BitVec.ofBool d).setWidth 8 <<< 7) ||| 0x7E ||| (r &&& 0x01) : Byte) =
    (if d then 0x80 else 0x00) ||| 0x7E ||| (r &&& 0x01) := by
  cases d <;> rfl

theorem palIndex_eq (r : Byte) : palIndex r = r.toNat % 64 := by
  simp [palIndex]

/-! ### Reads -/

theorem ioRead_of_not_audio {off : Nat} (h : isAudio off = false) (s : State) : ioRead off s = .ok (ioPeek off s) s :=
  if_neg (by simp [h])

/-- The offsets with a read rule of their own (R91). -/
def readRules : List Nat :=
  [0x00, 0x04, 0x05, 0x06, 0x07, 0x0F, 0x40, 0x41, 0x44, 0x4D, 0x4F, 0x55, 0x68, 0x69, 0x6A, 0x6B, 0x70]

theorem ioPeek_plain {off : Nat} (h : off ∉ readRules) (s : State) : ioPeek off s = s.ioRaw off := by
  unfold ioPeek
  split <;> first | rfl | (exfalso; exact h (by decide))

/-- The registers of the colour mode (R90). -/
def cgbOffsets : List Nat := [0x4D, 0x4F, 0x55, 0x68, 0x69, 0x6A, 0x6B, 0x70]

theorem cgbRead_of_cgb {s : State} (h : s.mode = .cgb) (off : Nat) (v : Byte) : cgbRead s off v = v := if_pos h

theorem ioPeek_cgb_of_dmg {s : State} (h : s.mode = .dmg) {off : Nat} (ho : off ∈ cgbOffsets) : ioPeek off s = s.ioRaw off := by
  have hread (v : Byte) : cgbRead s off v = s.ioRaw off := if_neg (by simp [h])
  simp only [cgbOffsets, List.mem_cons, List.not_mem_nil, or_false] at ho
  obtain rfl | rfl | rfl | rfl | rfl | rfl | rfl | rfl := ho <;> exact hread _

/-- Settles O34: each offset's read rule in the form of the statement, then the plain offsets and the audio registers. -/
theorem ioRegisterReads : Obligations.IoRegisterReads := by
  intro s
  have hread {off : Nat} (h : off ≤ 0x7F) (ha : ¬(0x10 ≤ off ∧ off ≤ 0x3F)) :
      busRead (0xFF00 + off) s = .ok (ioPeek off s) s :=
    (busRead_io s h).trans (ioRead_of_not_audio (decide_eq_false ha) s)
  have hrule (off : Nat) (v : Byte) (hv : ioPeek off s = v) (h : off ≤ 0x7F := by decide)
      (ha : ¬(0x10 ≤ off ∧ off ≤ 0x3F) := by decide) : busRead (0xFF00 + off) s = .ok v s := hv ▸ hread h ha
  refine ⟨hrule 0x00 _ (readJoyp_eq s), hrule 0x04 _ rfl, hrule 0x05 _ rfl, hrule 0x06 _ rfl, hrule 0x07 _ (readTac_eq s.timer),
    hrule 0x0F _ (readInt_eq _), hrule 0x40 _ (toByte_eq _), hrule 0x41 _ (readStat_eq s), hrule 0x44 _ rfl, fun hm => ?cgb,
    fun hm off ho => ?dmg, fun off h ha hoff => ?plain, fun off h h' => ?audio⟩
  case cgb =>
    have hrule (off : Nat) (v w : Byte) (hp : ioPeek off s = cgbRead s off v) (hv : v = w) (h : off ≤ 0x7F := by decide)
        (ha : ¬(0x10 ≤ off ∧ off ≤ 0x3F) := by decide) : busRead (0xFF00 + off) s = .ok w s :=
      hrule off w (hp.trans ((cgbRead_of_cgb hm off v).trans hv)) h ha
    exact ⟨hrule 0x4D _ _ rfl (key1_eq _ _), hrule 0x4F _ _ rfl (vbk_eq _), hrule 0x55 _ _ rfl (hdmaStatus_eq _),
      hrule 0x68 _ _ rfl rfl, hrule 0x6A _ _ rfl rfl, hrule 0x69 _ _ rfl (congrArg _ (palIndex_eq _)),
      hrule 0x6B _ _ rfl (congrArg _ (palIndex_eq _)), hrule 0x70 _ _ rfl rfl⟩
  case dmg =>
    have hbounds : ∀ off ∈ cgbOffsets, off ≤ 0x7F ∧ ¬(0x10 ≤ off ∧ off ≤ 0x3F) := by decide
    obtain ⟨h, ha⟩ := hbounds off ho
    exact hrule off _ (ioPeek_cgb_of_dmg hm ho) h ha
  case plain => exact hrule off _ (ioPeek_plain hoff s) h ha
  case audio => exact (busRead_io s (by omega)).trans (if_pos (decide_eq_true ⟨h, h'⟩))

/-! ### Writes -/

/-- The offsets with a write rule of their own in both modes (R92). -/
def writeRules : List Nat :=
  [0x00, 0x04, 0x05, 0x06, 0x07, 0x0F, 0x40, 0x41, 0x44, 0x45, 0x46, 0x50]

theorem ioWrite_plain {off : Nat} (ha : ¬(0x10 ≤ off ∧ off ≤ 0x3F)) (h : off ∉ writeRules) (v : Byte) {s : State}
    (hm : off ∈ cgbOffsets → s.mode = .dmg) : ioWrite off v s = .ok () (s.setIoRaw off v) := by
  have heffect := ioWrite_effect off v s
  generalize ioWrite off v s = r at heffect
  cases heffect with
  | audio _ haudio => exact absurd (of_decide_eq_true haudio) ha
  | plain => rfl
  | key1 hc | vbk hc | hdma hc | bcps hc | bcpd hc | ocps hc | ocpd hc | svbk hc =>
    exact absurd (hc.symm.trans (hm (by decide))) (by decide)
  | _ => exact absurd (by decide) h

theorem palStep_eq (r : Byte) : palStep r =
    if r.toNat < 128 then r else BitVec.ofNat 8 (r.toNat - r.toNat % 64 + (r.toNat % 64 + 1) % 64) := by
  revert r
  decide

theorem svbkBank_eq (v : Byte) : svbkBank v = if v.toNat % 8 = 0 then 1 else BitVec.ofNat 3 v.toNat := by
  revert v
  decide

/-- The low bits of a byte. -/
theorem extractLsb'_eq_ofNat (n : Nat) (v : Byte) : v.extractLsb' 0 n = BitVec.ofNat n v.toNat := by
  apply BitVec.eq_of_toNat_eq
  simp

theorem word16_zero (v : Byte) : word16 v 0x00 = BitVec.ofNat 16 (256 * v.toNat) := by
  rw [word16_eq_ofNat, Nat.mul_comm]
  rfl

/-- Settles O35: each offset's write rule, its values in the form of the statement; then plain storage. -/
theorem ioRegisterWrites : Obligations.IoRegisterWrites := by
  intro v s
  have hrule (off : Nat) (t : State) (ht : ioWrite off v s = .ok () t) (h : off ≤ 0x7F := by decide) :
      busWrite (0xFF00 + off) v s = .ok () t := (busWrite_io s h v).trans ht
  have hplain {off : Nat} (h : off ≤ 0x7F) (ha : ¬(0x10 ≤ off ∧ off ≤ 0x3F)) (hoff : off ∉ writeRules)
      (hm : off ∈ cgbOffsets → s.mode = .dmg) : busWrite (0xFF00 + off) v s = .ok () (s.setIoRaw off v) :=
    hrule off _ (ioWrite_plain ha hoff v hm) h
  refine ⟨hrule 0x00 _ rfl, hrule 0x04 _ rfl, hrule 0x05 _ rfl, hrule 0x06 _ rfl, hrule 0x07 _ ?tac, hrule 0x0F _ ?intFlag,
    ?enabled, hrule 0x41 _ rfl, hrule 0x44 _ rfl, hrule 0x45 _ rfl, hrule 0x46 _ ?dma, hrule 0x50 _ rfl,
    fun off h h' => hrule off _ (if_pos (decide_eq_true ⟨h, h'⟩)) (by omega), fun hm => ?cgb, fun hm off ho => ?dmg,
    fun off h ha hoff => ?plain⟩
  case tac => rw [← extractLsb'_eq_ofNat]; rfl
  case intFlag => rw [← extractLsb'_eq_ofNat]; rfl
  case enabled =>
    rw [← extractLsb'_eq_ofNat]
    unfold busWrite
    rw [locate_ie rfl]
  case dma => rw [← word16_zero]; rfl
  case cgb =>
    have hrule (off : Nat) (t : State) (ht : ioWrite off v s = cgbWrite s off v (.ok () t)) (h : off ≤ 0x7F := by decide) :
        busWrite (0xFF00 + off) v s = .ok () t := hrule off t (ht.trans (if_pos hm)) h
    refine ⟨hrule 0x4D _ rfl, hrule 0x4F _ ?_, hrule 0x70 _ ?_, hrule 0x68 _ rfl, hrule 0x6A _ rfl, hrule 0x69 _ ?_,
      hrule 0x6B _ ?_⟩
    · rw [← extractLsb'_eq_ofNat]; rfl
    · rw [← svbkBank_eq]; rfl
    · rw [← palStep_eq, ← palIndex_eq]; rfl
    · rw [← palStep_eq, ← palIndex_eq]; rfl
  case dmg =>
    have hbounds : ∀ off ∈ cgbOffsets, off ≤ 0x7F ∧ ¬(0x10 ≤ off ∧ off ≤ 0x3F) ∧ off ∉ writeRules := by decide
    obtain ⟨h, ha, hoff⟩ := hbounds off ho
    exact hplain h ha hoff fun _ => hm
  case plain =>
    simp only [List.mem_cons, List.not_mem_nil, or_false, not_or] at hoff
    refine hplain h ha (by simp [writeRules, hoff]) fun hc => absurd hc (by simp [cgbOffsets, hoff])

end Sys2Proof.Machine

/-! PROOFS. After a write to DIV: where the counter, the divider and `tima` stand after each further Timer step. -/

namespace Sys2Proof.Machine

/-! ### The Timer from a write to DIV on -/

/-- The period the rate selects (R404). -/
theorem timerPeriod_eq (rate : BitVec 2) :
    timerPeriod rate = if rate = 0 then 256 else if rate = 1 then 4 else if rate = 2 then 16 else 64 := by
  revert rate
  decide

theorem timerPeriod_bounds (rate : BitVec 2) : 0 < timerPeriod rate ∧ timerPeriod rate ≤ 256 ∧ 256 % timerPeriod rate = 0 := by
  revert rate
  decide

/-- The Timer's step on the Timer's own state (R401). -/
def Timer.step (t : Timer) : Timer :=
  if t.count.timaDue then { t.count with tima := if t.tima = 0xFF then t.tma else t.tima + 1 } else t.count

theorem timerStep_timer (s : State) : (timerStep s).timer = s.timer.step := by
  unfold timerStep Timer.step
  dsimp only
  have htima : s.timer.count.tima = s.timer.tima := rfl
  split
  · rw [htima]
    split <;> rfl
  · rfl

/-- `k` steps of the machine's Timer are `k` steps of the Timer. -/
theorem timerStep_iterate_timer (k : Nat) (s : State) : (timerStep^[k] s).timer = Timer.step^[k] s.timer := by
  induction k with
  | zero => rfl
  | succ k ih => rw [Function.iterate_succ_apply', Function.iterate_succ_apply', timerStep_timer, ih]

/-- One Timer step, field by field (R401). -/
theorem Timer.step_fields (t : Timer) :
    t.step.counter = t.counter + 1 ∧ t.step.running = t.running ∧ t.step.rate = t.rate ∧ t.step.tma = t.tma ∧
      t.step.div = if (t.counter + 1).toNat % 64 = 0 then t.div + 1 else t.div := by
  unfold Timer.step
  split <;> exact ⟨rfl, rfl, rfl, rfl, rfl⟩

/-- `tima` moves only where the new count is a multiple of the period, and only while running (R401). -/
theorem Timer.step_tima_of_not_due {t : Timer} (h : t.running = true → (t.counter + 1).toNat % timerPeriod t.rate ≠ 0) :
    t.step.tima = t.tima := by
  have hdue : ¬t.count.timaDue = true := by
    intro hd
    obtain ⟨hrun, hcount⟩ := Bool.and_eq_true_iff.mp hd
    exact h hrun (beq_iff_eq.mp hcount)
  unfold Timer.step
  rw [if_neg hdue]
  rfl

theorem Timer.step_tima_of_due {t : Timer} (hrun : t.running = true) (h : (t.counter + 1).toNat % timerPeriod t.rate = 0) :
    t.step.tima = if t.tima = 0xFF then t.tma else t.tima + 1 := by
  have hdue : t.count.timaDue = true := Bool.and_eq_true_iff.mpr ⟨hrun, beq_iff_eq.mpr h⟩
  unfold Timer.step
  rw [if_pos hdue]

section AfterWriteToDiv

variable {t : Timer} (hcounter : t.counter = 0)
include hcounter

/-- The count after `k` steps, and what no step changes. -/
theorem Timer.step_iterate (k : Nat) : (Timer.step^[k] t).counter = BitVec.ofNat 8 k ∧
    (Timer.step^[k] t).running = t.running ∧ (Timer.step^[k] t).rate = t.rate ∧ (Timer.step^[k] t).tma = t.tma := by
  induction k with
  | zero => exact ⟨hcounter, rfl, rfl, rfl⟩
  | succ k ih =>
    obtain ⟨hc, hrun, hrate, htma⟩ := ih
    obtain ⟨hc', hrun', hrate', htma', -⟩ := (Timer.step^[k] t).step_fields
    rw [Function.iterate_succ_apply']
    exact ⟨by rw [hc', hc, BitVec.ofNat_add]; rfl, hrun'.trans hrun, hrate'.trans hrate, htma'.trans htma⟩

/-- The count the next step brings it to. -/
theorem Timer.step_iterate_next (k : Nat) : ((Timer.step^[k] t).counter + 1).toNat = (k + 1) % 256 := by
  rw [(Timer.step_iterate hcounter k).1]
  simp

theorem Timer.div_step_iterate (hdiv : t.div = 0) {k : Nat} (hk : k < 64) : (Timer.step^[k] t).div = 0 := by
  induction k with
  | zero => exact hdiv
  | succ k ih =>
    obtain ⟨-, -, -, -, hstep⟩ := (Timer.step^[k] t).step_fields
    rw [Function.iterate_succ_apply', hstep, Timer.step_iterate_next hcounter, if_neg (by omega), ih (by omega)]

/-- The first increment of `div` (R402). -/
theorem Timer.div_step_iterate_64 (hdiv : t.div = 0) : (Timer.step^[64] t).div = 1 := by
  obtain ⟨-, -, -, -, hstep⟩ := (Timer.step^[63] t).step_fields
  rw [Function.iterate_succ_apply', hstep, Timer.step_iterate_next hcounter, if_pos rfl,
    Timer.div_step_iterate hcounter hdiv (by omega)]
  rfl

theorem Timer.tima_step_iterate {k : Nat} (hk : t.running = true → k < timerPeriod t.rate) :
    (Timer.step^[k] t).tima = t.tima := by
  induction k with
  | zero => rfl
  | succ k ih =>
    obtain ⟨-, hrun, hrate, -⟩ := Timer.step_iterate hcounter k
    rw [Function.iterate_succ_apply', Timer.step_tima_of_not_due ?_, ih fun h => by have := hk h; omega]
    intro h
    rw [hrun] at h
    have hlt := hk h
    have hbound := (timerPeriod_bounds t.rate).2.1
    rw [Timer.step_iterate_next hcounter, hrate, Nat.mod_eq_of_lt (show k + 1 < 256 by omega), Nat.mod_eq_of_lt hlt]
    omega

/-- The first increment of `tima`, one period on (R402). -/
theorem Timer.tima_step_iterate_period (hrunning : t.running = true) :
    (Timer.step^[timerPeriod t.rate] t).tima = if t.tima = 0xFF then t.tma else t.tima + 1 := by
  obtain ⟨hpos, hbound, hdvd⟩ := timerPeriod_bounds t.rate
  obtain ⟨k, hk⟩ : ∃ k, timerPeriod t.rate = k + 1 := ⟨timerPeriod t.rate - 1, by omega⟩
  obtain ⟨-, hrun, hrate, htma⟩ := Timer.step_iterate hcounter k
  have hdue : ((Timer.step^[k] t).counter + 1).toNat % timerPeriod (Timer.step^[k] t).rate = 0 := by
    rw [Timer.step_iterate_next hcounter, hrate, ← hk, Nat.mod_mod_of_dvd _ (Nat.dvd_of_mod_eq_zero hdvd), Nat.mod_self]
  rw [hk, Function.iterate_succ_apply', Timer.step_tima_of_due (hrun.trans hrunning) hdue, htma,
    Timer.tima_step_iterate hcounter fun _ => by omega]

end AfterWriteToDiv

/-- Settles O37: the write sets the counter and the divider to 0; from there both count from the write on. -/
theorem divWriteShiftsTimerPhase : Obligations.DivWriteShiftsTimerPhase := by
  intro s v
  refine ⟨s.setTimer s.timer.writeDiv, busWrite_io s (off := 0x04) (by decide) v, ?_⟩
  intro period
  have hperiod : period = timerPeriod s.timer.writeDiv.rate := (timerPeriod_eq _).symm
  have hiter (k : Nat) : (timerStep^[k] (s.setTimer s.timer.writeDiv)).timer = Timer.step^[k] s.timer.writeDiv :=
    timerStep_iterate_timer k _
  simp only [hiter, hperiod]
  have hcounter : s.timer.writeDiv.counter = 0 := rfl
  exact ⟨fun k => Timer.div_step_iterate hcounter rfl, Timer.div_step_iterate_64 hcounter rfl,
    fun hrun => ⟨fun k hk => Timer.tima_step_iterate hcounter fun _ => hk, Timer.tima_step_iterate_period hcounter hrun⟩,
    fun hrun k => Timer.tima_step_iterate hcounter fun h => absurd (hrun.symm.trans h) (by decide)⟩

end Sys2Proof.Machine

/-! PROOFS. LCDC: a write to it as one update of the Video unit, and the delay after the LCD is switched on. -/

namespace Sys2Proof.Machine

/-! ### A write to LCDC -/

/-- With the LCD off the compare raises nothing (R456). -/
theorem compareLyc_ints_of_off {s : State} (h : s.video.lcdc.lcdOn = false) : (compareLyc s).ints = s.ints := by
  rw [compareLyc_eq]
  simp [h]

/-- A write to LCDC raises nothing, also where it switches the LCD off (R459, R463). -/
theorem writeLcdc_ints (b : Byte) (s : State) : (writeLcdc b s).ints = s.ints := by
  unfold writeLcdc
  dsimp only
  split
  · next hoff =>
    have hlcd : (Lcdc.ofByte b).lcdOn = false := by simpa using (Bool.and_eq_true_iff.mp hoff).2
    exact compareLyc_ints_of_off (by simpa using hlcd)
  · split <;> rfl

/-- A write to LCDC touches the Video unit only. -/
theorem writeLcdc_eq (b : Byte) (s : State) : writeLcdc b s = s.setVideo (writeLcdc b s).video := by
  have honly := videoOnly_writeLcdc b s
  unfold VideoOnly at honly
  rw [writeLcdc_ints] at honly
  exact honly

theorem writeLcdc_lcdc (b : Byte) (s : State) : (writeLcdc b s).video.lcdc = Lcdc.ofByte b := by
  rw [writeLcdc_video]
  split
  · rfl
  · split <;> rfl

/-- The eight fields read back (R107). -/
theorem toByte_ofByte (b : Byte) : (Lcdc.ofByte b).toByte = b := by
  revert b
  decide

/-- A write that leaves the power bit as it was (R459). -/
theorem writeLcdc_of_same {b : Byte} {s : State} (h : s.video.lcdc.lcdOn = b.getLsbD 7) :
    writeLcdc b s = s.setVideo { s.video with lcdc := Lcdc.ofByte b } := by
  rw [writeLcdc_eq, writeLcdc_video, if_neg (by simp [h]), if_neg (by simp [h])]

/-- A write that switches the LCD on (R462). -/
theorem writeLcdc_on {b : Byte} {s : State} (h : s.video.lcdc.lcdOn = false) (h' : b.getLsbD 7 = true) :
    writeLcdc b s = s.setVideo { s.video with lcdc := Lcdc.ofByte b, enableDelay := 61 } := by
  rw [writeLcdc_eq, writeLcdc_video, if_neg (by simp [h]), if_pos ⟨h, h'⟩]

/-- A write that switches the LCD off (R463). -/
theorem writeLcdc_off {b : Byte} {s : State} (h : s.video.lcdc.lcdOn = true) (h' : b.getLsbD 7 = false) :
    writeLcdc b s = s.setVideo { s.video.setBack [] with
      lcdc := Lcdc.ofByte b, lineT := 0, line := 0, coincidence := 0 == s.lyc.toNat, mode := .hblank, enableDelay := 0 } := by
  rw [writeLcdc_eq, writeLcdc_video, if_pos ⟨h, h'⟩]

/-- Replacing the back framebuffer, field by field (R45). -/
theorem Video.setBack_eq (v : Video) (f : Frame) : v.setBack f =
    { v with fb0 := if v.frontSel then f else v.fb0, fb1 := if v.frontSel then v.fb1 else f } := by
  unfold Video.setBack
  split <;> rfl

/-! ### The delay -/

/-- A cycle of the delay that is not its last (R462). -/
theorem videoStep_of_delay {s : State} (hon : s.video.lcdc.lcdOn = true) (hd : 1 < s.video.enableDelay) :
    videoStep s = s.setVideo { s.video with enableDelay := s.video.enableDelay - 1 } := by
  unfold videoStep
  rw [if_pos hon, if_pos (by omega)]
  exact if_neg (by simp; omega)

/-- The last cycle of the delay, on the Video unit's own state (R462). -/
theorem videoStep_video_of_delay_end {s : State} (hon : s.video.lcdc.lcdOn = true) (hd : s.video.enableDelay = 1) :
    (videoStep s).video = { s.video with
      enableDelay := 0, lineT := 0, line := 0, coincidence := 0 == s.lyc.toNat, mode := .oamSearch } := by
  unfold videoStep
  rw [if_pos hon, if_pos (by omega), delayStep_video, if_pos (by omega), hd]

theorem videoStep_iterate_of_delay {s : State} (hon : s.video.lcdc.lcdOn = true) {n : Nat} (hd : s.video.enableDelay = n)
    {k : Nat} (hk : k < n) : videoStep^[k] s = s.setVideo { s.video with enableDelay := n - k } := by
  induction k with
  | zero =>
    rw [Nat.sub_zero, ← hd]
    rfl
  | succ k ih =>
    rw [Function.iterate_succ_apply', ih (by omega)]
    exact videoStep_of_delay (s := s.setVideo { s.video with enableDelay := n - k }) hon (show 1 < n - k by omega)

/-- Settles O50: the write by whether the power bit changes, then the delay. -/
theorem lcdPowerAndDelay : Obligations.LcdPowerAndDelay := by
  refine ⟨fun v s => ?_, fun s => ⟨fun hoff => if_neg (by simp [hoff]), fun hon hd _ _ => ?_⟩⟩
  · refine ⟨writeLcdc v s, busWrite_io s (off := 0x40) (by decide) v, ?_, writeLcdc_of_same, writeLcdc_on, fun h h' => ?_⟩
    · have hread : ioPeek 0x40 (writeLcdc v s) = v := by
        show (writeLcdc v s).video.lcdc.toByte = v
        rw [writeLcdc_lcdc, toByte_ofByte]
      exact (busRead_io (writeLcdc v s) (off := 0x40) (by decide)).trans (congrArg (Res.ok · _) hread)
    · rw [writeLcdc_off h h']
      refine ⟨fun x y => ?_, ?_⟩
      · have hback : (s.video.setBack []).back = [] := Video.setBack_back s.video []
        exact (congrArg (Frame.pixel s.params · x y) hback).trans (Frame.pixel_nil s.params x y)
      · have hlyc : (0 == s.lyc.toNat) = decide ((s.ioRaw 0x45).toNat = 0) := by
          rw [BEq.comm]
          rfl
        rw [hlyc, Video.setBack_eq]
        rfl
  · have hlast := videoStep_iterate_of_delay hon hd (show 60 < 61 by decide)
    have hend : (videoStep^[61] s).video = { s.video with
        enableDelay := 0, lineT := 0, line := 0, coincidence := 0 == s.lyc.toNat, mode := .oamSearch } := by
      rw [Function.iterate_succ_apply', hlast]
      exact videoStep_video_of_delay_end hon rfl
    rw [hend]
    exact ⟨fun k hk => videoStep_iterate_of_delay hon hd hk, rfl, rfl, rfl, rfl⟩

end Sys2Proof.Machine

/-! PROOFS. The gated transfer: what the write to 0xFF55 does, the transfer's step, and what 0xFF55 reads. -/

namespace Sys2Proof.Machine

/-! ### The write to 0xFF55 -/

/-- Bit 7 of a byte. -/
theorem getLsbD_seven (v : Byte) : v.getLsbD 7 = decide (128 ≤ v.toNat) := BitVec.msb_eq_decide v

theorem word16_eq_or (hi lo : Byte) : word16 hi lo = hi.setWidth 16 <<< 8 ||| lo.setWidth 16 := by
  apply BitVec.eq_of_toNat_eq
  have hhi := hi.isLt
  have hlo := lo.isLt
  rw [word16_toNat, BitVec.toNat_or, BitVec.toNat_shiftLeft, BitVec.toNat_setWidth_of_le (by omega),
    BitVec.toNat_setWidth_of_le (by omega), Nat.mod_eq_of_lt (by rw [Nat.shiftLeft_eq]; omega),
    ← Nat.shiftLeft_add_eq_or_of_lt hlo, Nat.shiftLeft_eq]

theorem hdmaAddr_eq (s : State) (hiOff loOff : Nat) : s.hdmaAddr hiOff loOff =
    ((s.ioRaw hiOff).setWidth 16 <<< 8 ||| (s.ioRaw loOff).setWidth 16) &&& 0xFFF0 := by
  rw [← word16_eq_or]
  rfl

theorem hdmaLength_eq (v : Byte) : hdmaLength v = (v.toNat % 128 + 1) * 16 := by
  unfold hdmaLength
  rw [BitVec.toNat_and]
  exact congrArg (fun n => (n + 1) * 16) (Nat.and_two_pow_sub_one_eq_mod v.toNat 7)

/-- An HBlank-gated transfer under way, and bit 7 of the written byte clear: an explicit stop (R430, R436). -/
theorem stops_iff (h : HdmaTransfer) (v : Byte) : (h.stoppable && !v.getLsbD 7) = true ↔
    h.active = true ∧ h.stopped = false ∧ h.mode = .hblank ∧ v.toNat < 128 := by
  rw [getLsbD_seven]
  simp [HdmaTransfer.stoppable, and_assoc]

/-- A write to 0xFF55 in colour mode that is no stop (R430 to R432). -/
theorem writeHdma_of_not_stop {v : Byte} {s : State} (h : ¬(s.hdma.stoppable && !v.getLsbD 7) = true) : writeHdma v s =
    if hdmaValid (s.hdmaAddr 0x51 0x52) (s.hdmaAddr 0x53 0x54) (hdmaLength v) then
      .ok () (s.setHdma
        { active := true, mode := if v.toNat < 128 then .general else .hblank, src := s.hdmaAddr 0x51 0x52
          dst := s.hdmaAddr 0x53 0x54, len := hdmaLength v, copied := 0, stopped := false, phase := false })
    else .fatal (s.setFault (.hdmaBadAddress (s.hdmaAddr 0x51 0x52) (s.hdmaAddr 0x53 0x54) (hdmaLength v))) := by
  have hmode : (if v.getLsbD 7 then HdmaMode.hblank else .general) = if v.toNat < 128 then .general else .hblank := by
    rw [getLsbD_seven]
    by_cases hv : v.toNat < 128
    · rw [if_pos hv, if_neg (by simp; omega)]
    · rw [if_neg hv, if_pos (by simp; omega)]
  unfold writeHdma
  rw [if_neg h, hmode]
  rfl

/-! ### The transfer's step -/

/-- The gated transfer takes the tick (R420). -/
theorem transferStep_of_hdma {s : State} (ha : s.hdma.active = true) (hs : s.hdma.stopped = false) :
    transferStep s = hdmaStep s := if_pos (by simp [ha, hs])

theorem hdmaStep_of_waits {s : State} (h : s.hdmaWaits = true) : hdmaStep s = .ok () s := if_pos h

theorem hdmaStep_idle {s : State} (h : s.hdmaWaits = false) (hp : s.hdma.phase = false) :
    hdmaStep s = .ok () (s.setHdma { s.hdma with phase := true }) := by
  unfold hdmaStep
  rw [if_neg (by simp [h]), if_neg (by simp [hp])]

theorem hdmaStep_copying {s : State} (h : s.hdmaWaits = false) (hp : s.hdma.phase = true) :
    hdmaStep s = hdmaMoveByte (s.setHdma { s.hdma with phase := false }) := by
  unfold hdmaStep
  rw [if_neg (by simp [h]), if_pos hp]

theorem hdmaMoveByte_of_fatal {s t : State} (h : busRead (s.hdma.src.toNat + s.hdma.copied) s = .fatal t) :
    hdmaMoveByte s = .fatal t := by
  unfold hdmaMoveByte
  rw [h]
  rfl

/-- The byte read goes to VRAM under the current bank, and the count steps; the last byte ends the transfer (R434). -/
theorem hdmaMoveByte_of_read {s t : State} {b : Byte} (h : busRead (s.hdma.src.toNat + s.hdma.copied) s = .ok b t)
    (hlo : 0x8000 ≤ s.hdma.dst.toNat + s.hdma.copied) (hhi : s.hdma.dst.toNat + s.hdma.copied ≤ 0x9FFF) :
    hdmaMoveByte s = .ok () ((t.setMem { t.mem with
        vram := t.mem.vram.write (0x2000 * s.banks.vramBank.toNat + (s.hdma.dst.toNat + s.hdma.copied - 0x8000)) b }).setHdma
      { s.hdma with copied := s.hdma.copied + 1, active := s.hdma.active && s.hdma.copied + 1 != s.hdma.len }) := by
  have hkept : t.hdma = s.hdma ∧ t.banks = s.banks := by
    obtain rfl | rfl := busRead_ok h <;> exact ⟨rfl, rfl⟩
  obtain ⟨hhdma, hbanks⟩ := hkept
  unfold hdmaMoveByte
  rw [h, Res.bind_ok, hhdma, busWrite_vram t hlo hhi b, Res.bind_ok, hbanks, Nat.mul_comm]
  dsimp only [State.setMem_hdma]
  rw [hhdma]

/-! ### The status byte -/

/-- What 0xFF55 reads in colour mode (R437). -/
theorem busRead_hdma {s : State} (hm : s.mode = .cgb) : busRead 0xFF55 s = .ok s.hdma.status s :=
  (busRead_io s (off := 0x55) (by decide)).trans (congrArg (Res.ok · s) (cgbRead_of_cgb hm 0x55 s.hdma.status))

/-- Bit 7 beside a count below 128. -/
theorem bit_or_count (b : Bool) {n : Nat} (h : n < 128) :
    ((if b then 0x80 else 0x00) ||| BitVec.ofNat 8 n : Byte) = BitVec.ofNat 8 ((if b then 128 else 0) + n) := by
  cases b with
  | false => exact (BitVec.zero_or).trans (congrArg _ (Nat.zero_add n).symm)
  | true =>
    apply BitVec.eq_of_toNat_eq
    have hor := Nat.two_pow_add_eq_or_of_lt (i := 7) h 1
    simp only [if_true, BitVec.toNat_or, BitVec.toNat_ofNat]
    rw [Nat.mod_eq_of_lt (show n < 2 ^ 8 by omega), Nat.mod_eq_of_lt (show 128 + n < 2 ^ 8 by omega)]
    exact hor.symm

/-- Settles O49: the write by its three cases, the step by whether it waits and by its phase, and the status byte. -/
theorem gatedTransfer : Obligations.GatedTransfer := by
  refine ⟨fun v s hm => ?_, fun s => ⟨fun ha hs => ⟨fun hmode hvideo => ?_, fun hgo => ?_⟩, fun hm ha => ?_, fun hm ha hc hl => ?_⟩⟩
  · intro src dst len stops valid
    have hsrc : s.hdmaAddr 0x51 0x52 = src := hdmaAddr_eq s 0x51 0x52
    have hdst : s.hdmaAddr 0x53 0x54 = dst := hdmaAddr_eq s 0x53 0x54
    have hlen : hdmaLength v = len := hdmaLength_eq v
    have hwrite : busWrite 0xFF55 v s = writeHdma v s := (busWrite_io s (off := 0x55) (by decide) v).trans (if_pos hm)
    have hstart (h : ¬stops) := writeHdma_of_not_stop (v := v) (s := s) fun hb => h ((stops_iff s.hdma v).mp hb)
    rw [hsrc, hdst, hlen] at hstart
    rw [hwrite]
    refine ⟨fun h => if_pos ((stops_iff s.hdma v).mpr h), fun h hvalid => ?_, fun h hvalid => ?_⟩
    · exact (hstart h).trans (if_neg fun hb => hvalid (of_decide_eq_true hb))
    · exact (hstart h).trans (if_pos (decide_eq_true hvalid))
  · rw [transferStep_of_hdma ha hs]
    exact hdmaStep_of_waits (by simp [State.hdmaWaits, hmode, hvideo])
  · have hwaits : s.hdmaWaits = false := by
      obtain h | h := hgo <;> simp [State.hdmaWaits, h]
    rw [transferStep_of_hdma ha hs]
    refine ⟨hdmaStep_idle hwaits, fun hp t ht => ?_, fun hp hlo hhi => ?_⟩
    · rw [hdmaStep_copying hwaits hp]
      exact ⟨hdmaMoveByte_of_fatal ht, busRead_fatal ht⟩
    · intro off last b t ht
      rw [hdmaStep_copying hwaits hp]
      refine (hdmaMoveByte_of_read ht hlo hhi).trans ?_
      have hlast : (s.hdma.active && s.hdma.copied + 1 != s.hdma.len) = !last := by
        rw [ha, Bool.true_and]
        rfl
      dsimp only [State.setHdma_hdma]
      rw [hlast]
      rfl
  · rw [busRead_hdma hm]
    exact congrArg (Res.ok · s) (if_neg (by simp [ha]))
  · rw [busRead_hdma hm, hdmaStatus_eq, if_pos ha, bit_or_count _ (by omega)]

end Sys2Proof.Machine

/-! PROOFS. What a write changes of what an observer reads: the byte at its own cell, and of an I/O register or a bank
controller's ROM address what `storeReach` says. -/

namespace Sys2Proof.Machine

/-! ### What an observer reads, by region -/

/-- The byte a region shows an observer: none without the cartridge it needs, and none for a free value. -/
def State.peekRegion (s : State) : Region → Option Byte
  | .bootRom off => some (s.mem.bootRom.read off)
  | .cartRom0 off => if s.cartLoaded then some (s.mem.cartRom0.read off) else none
  | .cartRomX off => if s.cartLoaded then some (s.mem.cartRomX.read off) else none
  | .vram off => some (s.mem.vram.read off)
  | .cartRam off => if s.cartLoaded && s.cartRamMapped then some (s.mem.cartRam.read off) else none
  | .wram off => some (s.mem.wram.read off)
  | .oam off => some (s.mem.oam.read off)
  | .gap => some s.params.gapReadValue
  | .io off => if isAudio off then none else some (ioPeek off s)
  | .hram off => some (s.mem.hram.read off)
  | .ie => some (readInt s.ints.enabled)
  | .outside => none

theorem peek_eq_peekRegion (s : State) (a : Nat) : s.peek a = s.peekRegion (locate s.banks a) := by
  have hdraw : s.drawFree.freeDraws ≠ s.freeDraws := by simp
  unfold State.peek busRead
  cases locate s.banks a with
  | cartRom0 off | cartRomX off => cases hc : s.cartLoaded <;> simp [State.peekRegion, cartRead, hc]
  | cartRam off =>
    cases hc : s.cartLoaded <;> cases hm : s.cartRamMapped <;> simp [State.peekRegion, cartRead, cartRamRead, hc, hm]
  | io off => cases ha : isAudio off <;> simp [State.peekRegion, ioRead, ha]
  | outside => rfl
  | _ => simp [State.peekRegion]

/-- Two states with the same banks show the same where the region shows the same. -/
theorem peek_congr {s t : State} {a : Nat} (hl : locate t.banks a = locate s.banks a)
    (hr : t.peekRegion (locate s.banks a) = s.peekRegion (locate s.banks a)) : t.peek a = s.peek a := by
  rw [peek_eq_peekRegion, peek_eq_peekRegion, hl, hr]

theorem ioPeek_setFault (off : Nat) (s : State) (e : Fault) : ioPeek off (s.setFault e) = ioPeek off s := by
  unfold ioPeek
  split <;> rfl

theorem peek_setFault (s : State) (e : Fault) (a : Nat) : (s.setFault e).peek a = s.peek a := by
  refine peek_congr rfl ?_
  cases locate s.banks a with
  | io off => exact congrArg (fun v => if isAudio off then none else some v) (ioPeek_setFault off s e)
  | _ => rfl

theorem peek_busRead_state (a b : Nat) (s : State) : (busRead a s).state.peek b = s.peek b := by
  obtain ⟨v, h⟩ | ⟨v, h⟩ | ⟨e, h⟩ := busRead_cases a s <;> rw [h]
  · rfl
  · exact peek_drawFree s b
  · exact peek_setFault s e b

/-! ### What a write to an I/O register leaves of the others -/

theorem ioRaw_setIoRaw_other {s : State} (hwf : Bytes.wf 128 s.mem.io) {off o : Nat} (h : off ≠ o) (v : Byte) :
    (s.setIoRaw o v).ioRaw off = s.ioRaw off := Bytes.read_write_other hwf h v

/-- A register's read depends on no raw byte but its own. -/
theorem ioPeek_setIoRaw_other {s : State} (hwf : Bytes.wf 128 s.mem.io) {off o : Nat} (h : off ≠ o) (v : Byte) :
    ioPeek off (s.setIoRaw o v) = ioPeek off s := by
  have hraw := ioRaw_setIoRaw_other hwf h v
  unfold ioPeek
  split
  case h_1 => unfold readJoyp; rw [hraw]; rfl
  case h_8 => unfold readStat State.statRaw; rw [hraw]; rfl
  case h_10 | h_11 | h_12 | h_13 | h_14 | h_15 | h_16 | h_17 => unfold cgbRead; rw [hraw]; rfl
  case h_18 => exact hraw
  all_goals rfl

section Registers

variable {s : State} {off : Nat}

/-- Of the Timer four registers read. -/
theorem ioPeek_setTimer {x : Timer} (hdiv : off = 0x04 → x.div = s.timer.div) (htima : off = 0x05 → x.tima = s.timer.tima)
    (htma : off = 0x06 → x.tma = s.timer.tma) (htac : off = 0x07 → x.readTac = s.timer.readTac) :
    ioPeek off (s.setTimer x) = ioPeek off s := by
  unfold ioPeek
  split
  case h_2 => exact hdiv rfl
  case h_3 => exact htima rfl
  case h_4 => exact htma rfl
  case h_5 => exact htac rfl
  all_goals rfl

theorem ioPeek_setIF_other (h : off ≠ 0x0F) (v : BitVec 5) : ioPeek off (s.setIF v) = ioPeek off s := by
  unfold ioPeek
  split
  case h_6 => exact absurd rfl h
  all_goals rfl

/-- Of the bank selection VBK reads. -/
theorem ioPeek_setBanks {b : Banks} (h : off = 0x4F → b.vramBank = s.banks.vramBank) :
    ioPeek off (s.setBanks b) = ioPeek off s := by
  unfold ioPeek
  split
  case h_11 => rw [State.setBanks_banks, h rfl]; rfl
  all_goals rfl

theorem ioPeek_setHdma_other (h : off ≠ 0x55) (x : HdmaTransfer) : ioPeek off (s.setHdma x) = ioPeek off s := by
  unfold ioPeek
  split
  case h_12 => exact absurd rfl h
  all_goals rfl

/-- Of the Video unit LCDC, STAT and LY read, and the two palettes through their index registers. -/
theorem ioPeek_setVideo {x : Video} (hlcdc : off = 0x40 → x.lcdc = s.video.lcdc)
    (hstat : off = 0x41 → x.coincidence = s.video.coincidence ∧ x.mode = s.video.mode)
    (hly : off = 0x44 → x.line = s.video.line)
    (hbg : off = 0x68 ∨ off = 0x69 → x.bcps = s.video.bcps ∧ x.bgPal = s.video.bgPal)
    (hobj : off = 0x6A ∨ off = 0x6B → x.ocps = s.video.ocps ∧ x.objPal = s.video.objPal) :
    ioPeek off (s.setVideo x) = ioPeek off s := by
  unfold ioPeek
  split
  case h_7 => rw [State.setVideo_video, hlcdc rfl]
  case h_8 => unfold readStat; rw [State.setVideo_video, (hstat rfl).1, (hstat rfl).2]; rfl
  case h_9 => rw [State.setVideo_video, hly rfl]
  case h_13 => rw [State.setVideo_video, (hbg (by decide)).1]; rfl
  case h_14 => rw [State.setVideo_video, (hbg (by decide)).1, (hbg (by decide)).2]; rfl
  case h_15 => rw [State.setVideo_video, (hobj (by decide)).1]; rfl
  case h_16 => rw [State.setVideo_video, (hobj (by decide)).1, (hobj (by decide)).2]; rfl
  all_goals rfl

end Registers

theorem writeLcdc_palettes (b : Byte) (s : State) :
    (writeLcdc b s).video.bcps = s.video.bcps ∧ (writeLcdc b s).video.ocps = s.video.ocps ∧
      (writeLcdc b s).video.bgPal = s.video.bgPal ∧ (writeLcdc b s).video.objPal = s.video.objPal := by
  rw [writeLcdc_video]
  split
  · simp
  · split <;> exact ⟨rfl, rfl, rfl, rfl⟩

theorem ioPeek_compareLyc_other {off : Nat} (h : off ≠ 0x41 ∧ off ≠ 0x0F) (s : State) :
    ioPeek off (compareLyc s) = ioPeek off s := by
  obtain ⟨hstat, hif⟩ := h
  rw [compareLyc_eq]
  unfold ioPeek
  split
  case h_6 => exact absurd rfl hif
  case h_8 => exact absurd rfl hstat
  all_goals rfl

theorem isIo_io (off : Nat) (offs : List Nat) : isIo (0xFF00 + off) offs = decide (off ∈ offs) := by
  rw [Bool.eq_iff_iff, decide_eq_true_iff]
  unfold isIo
  simp only [List.any_eq_true, beq_iff_eq, Nat.add_left_cancel_iff, exists_eq_right']

/-- A write to a register other than LY and the audio registers can change the register's own read. -/
theorem ioReach_self (m : Mode) {o : Nat} (hly : o ≠ 0x44) (ha : isAudio o = false) : ioReach m o (0xFF00 + o) = true := by
  have hnone : ¬(o = 0x44 ∨ isAudio o = true) := by simp [hly, ha]
  unfold ioReach
  rw [if_neg hnone]
  simp only [isIo_io]
  split_ifs <;> simp_all

/-- A write to an I/O offset keeps the read of every other register it does not decide (R93). -/
theorem IoEffect.ioPeek_other {v : Byte} {s : State} {o : Nat} {r : Res Unit} (h : IoEffect v s o r)
    (hwf : Bytes.wf 128 s.mem.io) {off : Nat} (hoff : ioReach s.mode o (0xFF00 + off) = false) :
    ioPeek off r.state = ioPeek off s := by
  have hne (hly : o ≠ 0x44) (ha : isAudio o = false) : off ≠ o := by
    rintro rfl
    exact absurd (hoff.symm.trans (ioReach_self s.mode hly ha)) (by decide)
  cases h with
  | audio | ly => rfl
  | joyp | stat | dma | key1 => exact ioPeek_setIoRaw_other hwf (hne (by decide) rfl) _
  | plain _ ha hrule => exact ioPeek_setIoRaw_other hwf (hne (fun h => hrule (by rw [h]; decide)) ha) _
  | boot | svbk => exact (ioPeek_setBanks fun _ => rfl).trans (ioPeek_setIoRaw_other hwf (hne (by decide) rfl) v)
  | div => exact ioPeek_setTimer (fun h => absurd h (hne (by decide) rfl)) (fun _ => rfl) (fun _ => rfl) fun _ => rfl
  | tima => exact ioPeek_setTimer (fun _ => rfl) (fun h => absurd h (hne (by decide) rfl)) (fun _ => rfl) fun _ => rfl
  | tma => exact ioPeek_setTimer (fun _ => rfl) (fun _ => rfl) (fun h => absurd h (hne (by decide) rfl)) fun _ => rfl
  | tac => exact ioPeek_setTimer (fun _ => rfl) (fun _ => rfl) (fun _ => rfl) fun h => absurd h (hne (by decide) rfl)
  | intFlag => exact ioPeek_setIF_other (hne (by decide) rfl) _
  | vbk => exact ioPeek_setBanks fun h => absurd h (hne (by decide) rfl)
  | hdma =>
    obtain ⟨x, hx⟩ | ⟨e, hx⟩ := writeHdma_cases v s <;> rw [hx]
    · exact ioPeek_setHdma_other (hne (by decide) rfl) x
    · exact ioPeek_setFault off s e
  | bcps hm | bcpd hm =>
    have hne : ¬(off = 0x68 ∨ off = 0x69) := by simpa [ioReach, isIo_io, isAudio, hm] using hoff
    exact ioPeek_setVideo (fun _ => rfl) (fun _ => ⟨rfl, rfl⟩) (fun _ => rfl) (fun h => absurd h hne) fun _ => ⟨rfl, rfl⟩
  | ocps hm | ocpd hm =>
    have hne : ¬(off = 0x6A ∨ off = 0x6B) := by simpa [ioReach, isIo_io, isAudio, hm] using hoff
    exact ioPeek_setVideo (fun _ => rfl) (fun _ => ⟨rfl, rfl⟩) (fun _ => rfl) (fun _ => ⟨rfl, rfl⟩) fun h => absurd h hne
  | lcdc =>
    obtain ⟨hbcps, hocps, hbg, hobj⟩ := writeLcdc_palettes v s
    obtain ⟨hlcdc, hstat, hly⟩ : off ≠ 0x40 ∧ off ≠ 0x41 ∧ off ≠ 0x44 := by simpa [ioReach, isIo_io, isAudio] using hoff
    rw [Res.state_ok, writeLcdc_eq]
    exact ioPeek_setVideo (absurd · hlcdc) (absurd · hstat) (absurd · hly) (fun _ => ⟨hbcps, hbg⟩) fun _ => ⟨hocps, hobj⟩
  | lyc =>
    have hne : off ≠ 0x45 ∧ off ≠ 0x41 ∧ off ≠ 0x0F := by simpa [ioReach, isIo_io, isAudio] using hoff
    exact (ioPeek_compareLyc_other hne.2 _).trans (ioPeek_setIoRaw_other hwf hne.1 v)

end Sys2Proof.Machine

/-! PROOFS. A write changes no byte an observer reads but those `storeReach` names. -/

namespace Sys2Proof.Machine

/-! ### A write and the bytes it leaves -/

/-- The map outside a window does not depend on the bank shown there (R76). -/
theorem locate_setVramBank {a : Nat} (h : ¬(0x8000 ≤ a ∧ a ≤ 0x9FFF)) (b : Banks) (k : BitVec 1) :
    locate { b with vramBank := k } a = locate b a := by
  have hecho := unEcho_cases a
  unfold locate locateDirect
  repeat' refine ite_congr rfl (fun _ => ?_) (fun _ => ?_)
  case refine_2.refine_2.refine_2.refine_1 => exfalso; omega
  all_goals rfl

theorem locate_setWramBank {a : Nat} (h : ¬(0xD000 ≤ unEcho a ∧ unEcho a ≤ 0xDFFF)) (b : Banks) (k : BitVec 3) :
    locate { b with wramBank := k } a = locate b a := by
  unfold locate locateDirect
  repeat' refine ite_congr rfl (fun _ => ?_) (fun _ => ?_)
  case refine_2.refine_2.refine_2.refine_2.refine_2.refine_2.refine_1 => exfalso; omega
  all_goals rfl

theorem locate_setCart {a : Nat} (h : ¬(0x4000 ≤ a ∧ a ≤ 0x7FFF)) (h' : ¬(0xA000 ≤ a ∧ a ≤ 0xBFFF)) (b : Banks)
    (w : CartSelect) : locate { b with cart := w } a = locate b a := by
  have hecho := unEcho_cases a
  unfold locate locateDirect
  repeat' refine ite_congr rfl (fun _ => ?_) (fun _ => ?_)
  case refine_2.refine_2.refine_1 | refine_2.refine_2.refine_2.refine_2.refine_1 => exfalso; omega
  all_goals rfl

theorem locate_setBoot {a : Nat} (h : ¬a ≤ 0x00FF) (b : Banks) (k : Bool) :
    locate { b with bootRomEnabled := k } a = locate b a := by
  have hecho := unEcho_cases a
  have hlow : ¬unEcho a ≤ 0x00FF := by omega
  unfold locate locateDirect
  rw [if_neg fun hc : unEcho a ≤ 0x00FF ∧ k = true => hlow hc.1,
    if_neg fun hc : unEcho a ≤ 0x00FF ∧ b.bootRomEnabled = true => hlow hc.1]

/-- Beside the CPU, the I/O registers and the selection of other banks the machine is as it was. -/
structure MemoryKept (s t : State) : Prop where
  params : t.params = s.params
  cartLoaded : t.cartLoaded = s.cartLoaded
  cart : t.banks.cart = s.banks.cart
  enabled : t.ints.enabled = s.ints.enabled
  mem : ∃ m, t.mem = { s.mem with io := m }

/-- Then what an observer reads is as it was, where the map is and the I/O register is. -/
theorem MemoryKept.peek {s t : State} (h : MemoryKept s t) {b : Nat} (hl : locate t.banks b = locate s.banks b)
    (hio : ∀ off, locate s.banks b = .io off → ioPeek off t = ioPeek off s) : t.peek b = s.peek b := by
  obtain ⟨hparams, hcartLoaded, hcart, henabled, m, hmem⟩ := h
  have hmapped : t.cartRamMapped = s.cartRamMapped := by
    unfold State.cartRamMapped
    rw [hparams, hcart]
  refine peek_congr hl ?_
  cases hb : locate s.banks b with
  | io off => exact congrArg (fun v => if isAudio off then none else some v) (hio off hb)
  | _ => simp only [State.peekRegion, hparams, hcartLoaded, hmapped, henabled, hmem]

theorem addr_of_locate_io {b : Banks} {a off : Nat} (h : locate b a = .io off) : a = 0xFF00 + off ∧ off ≤ 0x7F := by
  have howns := locate_owns b a
  have hecho := unEcho_cases a
  rw [h] at howns
  simp only [Region.owns] at howns
  omega

theorem MemoryKept.refl (s : State) : MemoryKept s s := ⟨rfl, rfl, rfl, rfl, _, rfl⟩

theorem VideoOnly.memoryKept {s t : State} (h : VideoOnly s t) : MemoryKept s t := by
  unfold VideoOnly at h
  rw [h]
  exact ⟨rfl, rfl, rfl, rfl, _, rfl⟩

/-- A write to an I/O offset acts on its register only. -/
theorem IoEffect.memoryKept {v : Byte} {s : State} {o : Nat} {r : Res Unit} (h : IoEffect v s o r) :
    MemoryKept s r.state := by
  cases h with
  | lcdc => exact (videoOnly_writeLcdc v s).memoryKept
  | lyc =>
    obtain ⟨hparams, hcartLoaded, hcart, henabled, m, hmem⟩ := (videoOnly_compareLyc (s.setIoRaw 0x45 v)).memoryKept
    exact ⟨hparams, hcartLoaded, hcart, henabled, m, hmem⟩
  | hdma => obtain ⟨x, hx⟩ | ⟨e, hx⟩ := writeHdma_cases v s <;> rw [hx] <;> exact ⟨rfl, rfl, rfl, rfl, _, rfl⟩
  | _ => exact ⟨rfl, rfl, rfl, rfl, _, rfl⟩

/-- A write to an I/O offset changes no byte but those its register decides. -/
theorem IoEffect.peek_other {v : Byte} {s : State} {o : Nat} {r : Res Unit} (h : IoEffect v s o r)
    (hwf : Bytes.wf 128 s.mem.io) {b : Nat} (hb : ioReach s.mode o b = false) : r.state.peek b = s.peek b := by
  have hio (off : Nat) (hoff : locate s.banks b = .io off) : ioPeek off r.state = ioPeek off s :=
    h.ioPeek_other hwf ((addr_of_locate_io hoff).1 ▸ hb)
  refine h.memoryKept.peek ?_ hio
  cases h with
  | vbk hm =>
    refine locate_setVramBank (fun hwin => ?_) s.banks _
    simp [ioReach, isAudio, hm] at hb
    omega
  | svbk hm =>
    refine locate_setWramBank (fun hwin => ?_) s.banks _
    simp [ioReach, isAudio, hm] at hb
    omega
  | boot =>
    refine locate_setBoot (fun hwin => ?_) s.banks _
    simp [ioReach, isAudio] at hb
    omega
  | lcdc => rw [Res.state_ok, writeLcdc_eq]; rfl
  | lyc => exact congrArg (locate · b) (by rw [Res.state_ok, writeLyc, compareLyc_eq]; rfl)
  | hdma hm => obtain ⟨x, hx⟩ | ⟨e, hx⟩ := writeHdma_cases v s <;> rw [hx] <;> rfl
  | _ => rfl

/-- A region of writable memory outside the I/O registers; IE, one byte, counts with them. -/
def Region.isCell : Region → Bool
  | .vram _ | .cartRam _ | .wram _ | .oam _ | .hram _ | .ie => true
  | _ => false

theorem addr_of_isCell {b : Banks} {a : Nat} (h : (locate b a).isCell = true) :
    0x8000 ≤ a ∧ ¬(0xFF00 ≤ a ∧ a ≤ 0xFF7F) := by
  have howns := locate_owns b a
  have hecho := unEcho_cases a
  generalize locate b a = r at h howns
  cases r <;> simp only [Region.owns] at howns
  case vram | cartRam | wram | oam | hram | ie => omega
  all_goals cases h

/-- Addresses with one cell are equal, echo addresses folded: the banks of work RAM do not overlap (R80, R81). -/
theorem unEcho_eq_of_locate_eq {b : Banks} (hw : b.wramBank ≠ 0) {a a' : Nat} (h : locate b a = locate b a')
    (hcell : (locate b a').isCell = true) : unEcho a = unEcho a' := by
  have hbank : b.wramBank.toNat ≠ 0 := fun h0 => hw (BitVec.eq_of_toNat_eq h0)
  have howns := locate_owns b a
  have howns' := locate_owns b a'
  rw [h] at howns
  generalize locate b a' = r at *
  cases r <;> simp only [Region.owns] at howns howns'
  case vram | cartRam | wram | oam | hram | ie => omega
  all_goals cases hcell

/-- `storeReach` of an address outside ROM and the I/O registers: that of the cell. -/
theorem unEcho_ne_of_storeReach {c : CartWrite} {m : Mode} {a b : Nat} (h : storeReach c m a b = false) (hrom : 0x8000 ≤ a)
    (hio : ¬(0xFF00 ≤ a ∧ a ≤ 0xFF7F)) : unEcho b ≠ unEcho a := by
  unfold storeReach at h
  rw [if_neg (by omega), if_neg hio] at h
  simpa using h

/-- A write on the Bus changes no byte but what `storeReach` says (R76, R78, R81). -/
theorem BusEffect.peek_other {v : Byte} {s : State} {a : Nat} {r : Res Unit} (h : BusEffect v s a r)
    (hwf : Memory.wf s.mem) (hbank : s.banks.wramBank ≠ 0) {b : Nat}
    (hb : storeReach s.params.cartWrite s.mode a b = false) : r.state.peek b = s.peek b := by
  obtain ⟨-, -, -, hvram, hcartRam, hwram, hoam, hio, hhram⟩ := hwf
  have hcell (hr : (locate s.banks a).isCell = true) : unEcho b ≠ unEcho a := by
    obtain ⟨hrom, hnio⟩ := addr_of_isCell hr
    exact unEcho_ne_of_storeReach hb hrom hnio
  have hother {R : Nat → Region} {off off' n : Nat} {m : Bytes} (hcells : ∀ k, (R k).isCell = true)
      (hloc : locate s.banks a = R off) (hloc' : locate s.banks b = R off') (hm : Bytes.wf n m) :
      (m.write off v).read off' = m.read off' := by
    refine Bytes.read_write_other hm (fun hoff => hcell (hloc ▸ hcells off) ?_) v
    subst hoff
    exact unEcho_eq_of_locate_eq hbank (hloc'.trans hloc.symm) (hloc ▸ hcells _)
  cases h with
  | fatal e => exact peek_setFault s e b
  | gap | consumed | noRam => rfl
  | hook w ha hw =>
    obtain ⟨hrom, hram⟩ : ¬(0x4000 ≤ b ∧ b ≤ 0x7FFF) ∧ ¬(0xA000 ≤ b ∧ b ≤ 0xBFFF) := by
      simpa [storeReach, ha, hookReach, hw] using hb
    refine peek_congr (locate_setCart hrom hram s.banks w) ?_
    cases hloc : locate s.banks b with
    | cartRam off => exact absurd (mem_of_locate_cartRam hloc) hram
    | _ => rfl
  | vram off hloc =>
    refine peek_congr rfl ?_
    cases hloc' : locate s.banks b with
    | vram off' => exact congrArg some (hother (fun _ => rfl) hloc hloc' hvram)
    | _ => rfl
  | cartRam off hloc =>
    refine peek_congr rfl ?_
    cases hloc' : locate s.banks b with
    | cartRam off' =>
      exact congrArg (fun x => if s.cartLoaded && s.cartRamMapped then some x else none)
        (hother (fun _ => rfl) hloc hloc' hcartRam)
    | _ => rfl
  | wram off hloc =>
    refine peek_congr rfl ?_
    cases hloc' : locate s.banks b with
    | wram off' => exact congrArg some (hother (fun _ => rfl) hloc hloc' hwram)
    | _ => rfl
  | oam off hloc =>
    refine peek_congr rfl ?_
    cases hloc' : locate s.banks b with
    | oam off' => exact congrArg some (hother (fun _ => rfl) hloc hloc' hoam)
    | _ => rfl
  | hram off hloc =>
    refine peek_congr rfl ?_
    cases hloc' : locate s.banks b with
    | hram off' => exact congrArg some (hother (fun _ => rfl) hloc hloc' hhram)
    | _ => rfl
  | ie hloc =>
    refine peek_congr rfl ?_
    cases hloc' : locate s.banks b with
    | ie =>
      have hcells : (locate s.banks a).isCell = true := by rw [hloc]; rfl
      exact absurd (unEcho_eq_of_locate_eq hbank (hloc'.trans hloc.symm) hcells) (hcell hcells)
    | _ => rfl
  | io off _ hloc _ he =>
    obtain ⟨ha, hoff⟩ := addr_of_locate_io hloc
    refine he.peek_other hio ?_
    unfold storeReach at hb
    rwa [if_neg (by omega), if_pos (by omega), ha, Nat.add_sub_cancel_left] at hb

end Sys2Proof.Machine

/-! PROOFS. Where an instruction stores: one lemma for each shared operation, then one case for each shape; and the frames of
memory that follow. -/

namespace Sys2Proof.Machine

/-! ### Operations that store at given addresses only -/

/-- From `s` on, only changes of the CPU, reads, fatal errors and writes at the addresses `as`. -/
inductive StoresAt (as : List Word) (s : State) : State → Prop where
  | refl : StoresAt as s s
  | cpu {t : State} (h : StoresAt as s t) (c : Cpu) : StoresAt as s (t.withCpu c)
  | read {t : State} (h : StoresAt as s t) (a : Nat) : StoresAt as s (busRead a t).state
  | write {t : State} (h : StoresAt as s t) {a : Word} (ha : a ∈ as) (v : Byte) : StoresAt as s (busWrite16 a v t).state
  | fault {t : State} (h : StoresAt as s t) (e : Fault) : StoresAt as s (t.setFault e)

section Operations

variable {as : List Word} {s : State}

theorem StoresAt.trans {t u : State} (h : StoresAt as s t) (h' : StoresAt as t u) : StoresAt as s u := by
  induction h' with
  | refl => exact h
  | cpu _ c ih => exact ih.cpu c
  | read _ a ih => exact ih.read a
  | write _ ha v ih => exact ih.write ha v
  | fault _ e ih => exact ih.fault e

theorem StoresAt.bind {α β : Type} {r : Res α} {f : α → State → Res β} (h : StoresAt as s r.state)
    (hf : ∀ v t, r = .ok v t → StoresAt as t (f v t).state) : StoresAt as s (r.bind f).state := by
  cases r with
  | ok v t => exact h.trans (hf v t rfl)
  | fatal t => exact h

/-- Any update of the CPU. -/
theorem StoresAt.setCpu (s : State) (c : Cpu) : StoresAt as s (s.withCpu c) := .cpu .refl c

theorem StoresAt.setPair (p : R16) (v : Word) : StoresAt as s (s.setPair p v) := by
  cases p <;> exact .setCpu s _

theorem StoresAt.setStkPair (p : R16Stk) (v : Word) : StoresAt as s (s.setStkPair p v) := by
  cases p <;> exact .setCpu s _

theorem StoresAt.stepPtr (p : R16Mem) : StoresAt as s (s.stepPtr p) := by
  cases p with
  | bc | de => exact .refl
  | hlInc | hlDec => exact .setCpu s _

theorem StoresAt.alu (op : AluOp) (x : Byte) : StoresAt as s (s.alu op x) := by
  unfold State.alu
  dsimp only
  split <;> exact .setCpu s _

theorem StoresAt.haltCpu : StoresAt as s (haltCpu s) := by
  obtain h | h := haltCpu_cases s <;> rw [h] <;> exact .setCpu s _

theorem StoresAt.busRead16 (a : Word) : StoresAt as s (busRead16 a s).state := .read .refl _

theorem StoresAt.busWrite16 {a : Word} (h : a ∈ as) (v : Byte) : StoresAt as s (busWrite16 a v s).state :=
  .write .refl h v

theorem StoresAt.readR8 (r : R8) : StoresAt as s (readR8 r s).state := by
  cases r
  case mHL => exact .busRead16 _
  all_goals exact .refl

theorem readR8_ok_cpu {r : R8} {s t : State} {v : Byte} (h : readR8 r s = .ok v t) : t.cpu = s.cpu := by
  cases r
  case mHL => exact busRead16_ok_cpu h
  all_goals cases h; rfl

/-- An operand (HL) is stored at HL (R143). -/
theorem StoresAt.writeR8 {r : R8} (h : r = .mHL → s.hl ∈ as) (v : Byte) : StoresAt as s (writeR8 r v s).state := by
  cases r
  case mHL => exact .busWrite16 (h rfl) v
  all_goals exact .setCpu s _

/-- A push stores at SP − 1 and SP − 2 (R238). -/
theorem StoresAt.push16 (h : pushAddrs s.cpu.sp ⊆ as) (v : Word) : StoresAt as s (push16 v s).state := by
  have hsecond : s.cpu.sp - 1 - 1 = s.cpu.sp - 2 := by bv_omega
  refine .bind ((StoresAt.setCpu s _).trans (.busWrite16 (h (by simp [pushAddrs])) _)) fun _ t ht => ?_
  refine (StoresAt.setCpu t _).trans (.busWrite16 (h ?_) _)
  rw [State.setSp_cpu_sp, busWrite16_ok_cpu ht, State.setSp_cpu_sp, hsecond]
  exact .tail _ (.head _)

theorem StoresAt.pop16 : StoresAt as s (pop16 s).state :=
  .bind (.busRead16 _) fun _ t _ => .bind ((StoresAt.setCpu t _).trans (.busRead16 _)) fun _ u _ => .setCpu u _

theorem StoresAt.callTo (h : pushAddrs s.cpu.sp ⊆ as) (a : Word) : StoresAt as s (callTo a s).state :=
  .bind (.push16 h _) fun _ t _ => .setCpu t _

theorem StoresAt.ret : StoresAt as s (ret s).state := .bind .pop16 fun _ t _ => .setCpu t _

theorem StoresAt.imm8 : StoresAt as s (imm8 s).state := .bind (.busRead16 _) fun _ t _ => .setCpu t _

theorem StoresAt.memWriteWord {a : Word} (h : a ∈ as) (h' : a + 1 ∈ as) (v : Word) :
    StoresAt as s (memWriteWord a v s).state :=
  .bind (.busWrite16 h _) fun _ _ _ => .busWrite16 h' _

theorem StoresAt.ld {y : R8} (h : y = .mHL → s.hl ∈ as) (z : R8) : StoresAt as s (ld y z s).state :=
  .bind (.readR8 z) fun _ _ ht => .writeR8 (hl_of_cpu (readR8_ok_cpu ht) ▸ h) _

theorem StoresAt.loadA (a : Word) : StoresAt as s (loadA a s).state := .bind (.busRead16 a) fun _ t _ => .setCpu t _

theorem StoresAt.storeA {a : Word} (h : a ∈ as) : StoresAt as s (storeA a s).state := .busWrite16 h _

theorem StoresAt.loadAPtr (p : R16Mem) : StoresAt as s (loadAPtr p s).state := .bind (.loadA _) fun _ _ _ => .stepPtr p

theorem StoresAt.storeAPtr {p : R16Mem} (h : s.memPtr p ∈ as) : StoresAt as s (storeAPtr p s).state :=
  .bind (.storeA h) fun _ _ _ => .stepPtr p

theorem StoresAt.aluR8 (op : AluOp) (z : R8) : StoresAt as s (aluR8 op z s).state :=
  .bind (.readR8 z) fun _ _ _ => .alu op _

theorem StoresAt.stepR8 {y : R8} (h : y = .mHL → s.hl ∈ as) (f : Byte → Bool → AluResult) :
    StoresAt as s (stepR8 f y s).state :=
  .bind (.readR8 y) fun _ t ht => .bind ((StoresAt.setCpu t _).trans (.writeR8 (hl_of_cpu (readR8_ok_cpu ht) ▸ h) _))
    fun _ u _ => .setCpu u _

theorem StoresAt.shiftR8 {z : R8} (h : z = .mHL → s.hl ∈ as) (op : ShiftOp) : StoresAt as s (shiftR8 op z s).state :=
  .bind (.readR8 z) fun _ _ ht => .bind (.writeR8 (hl_of_cpu (readR8_ok_cpu ht) ▸ h) _) fun _ u _ => .setCpu u _

theorem StoresAt.bitR8 (b : Nat) (z : R8) : StoresAt as s (bitR8 b z s).state :=
  .bind (.readR8 z) fun _ t _ => .setCpu t _

theorem StoresAt.resR8 {z : R8} (h : z = .mHL → s.hl ∈ as) (b : Nat) : StoresAt as s (resR8 b z s).state :=
  .bind (.readR8 z) fun _ _ ht => .writeR8 (hl_of_cpu (readR8_ok_cpu ht) ▸ h) _

theorem StoresAt.setR8 {z : R8} (h : z = .mHL → s.hl ∈ as) (b : Nat) : StoresAt as s (setR8 b z s).state :=
  .bind (.readR8 z) fun _ _ ht => .writeR8 (hl_of_cpu (readR8_ok_cpu ht) ▸ h) _

theorem StoresAt.whenCond {cc : Cond} {m n : Nat} {f : State → Res Unit} (h : s.cond cc = true → StoresAt as s (f s).state) :
    StoresAt as s (whenCond cc m n f s).state := by
  unfold Machine.whenCond
  split
  · next hcond => exact .bind (h hcond) fun _ _ _ => .refl
  · exact .refl

/-- An instruction of the alternate table stores at HL, where it writes (HL) back (R294). -/
theorem StoresAt.execPrefixed {op2 : Byte} (h : prefixedStores op2 s.hl ⊆ as) : StoresAt as s (execPrefixed op2 s).state := by
  have hback (hx : xField op2 ≠ 1) (hz : R8.ofField (zField op2) = .mHL) : s.hl ∈ as := by
    have hfield : zField op2 = 6 := by
      revert hz
      generalize zField op2 = z
      revert z
      decide
    exact h (by simp [prefixedStores, hfield, hx])
  refine .bind ?_ fun _ _ _ => .refl
  split
  · next hx => exact .shiftR8 (hback (by rw [hx]; decide)) _
  · exact .bitR8 _ _
  · next hx => exact .resR8 (hback (by rw [hx]; decide)) _
  · next hx => exact .setR8 (hback (by rw [hx]; decide)) _

end Operations

/-! ### Instructions -/

section Endings

variable {as : List Word} {s t : State}

theorem StoresAt.finish {c : Nat} {r : Res Unit} (h : StoresAt as s r.state) (ht : finish c r = .next t) : StoresAt as s t := by
  cases r with
  | ok _ u => cases ht; exact h.cpu _
  | fatal u => cases ht; exact h

theorem StoresAt.finishWith {r : Res Nat} (h : StoresAt as s r.state) (ht : finishWith r = .next t) : StoresAt as s t := by
  cases r with
  | ok _ u => cases ht; exact h.cpu _
  | fatal u => cases ht; exact h

/-- An operation that cannot be fatal, and its charge. -/
theorem StoresAt.done {c : Nat} {u : State} (h : StoresAt as s u) (ht : (.next (u.setPending c) : Out) = .next t) :
    StoresAt as s t := by
  cases ht
  exact h.cpu _

end Endings

theorem storeAddrs_mkCallCc (cc : Cond) (a : Word) (s : State) :
    storeAddrs (mkCallCc cc a) s = if s.cond cc then pushAddrs s.cpu.sp else [] := by
  cases cc with
  | z | c => rfl
  | nz =>
    show (if s.flagZ then [] else pushAddrs s.cpu.sp) = if !s.flagZ then pushAddrs s.cpu.sp else []
    cases s.flagZ <;> rfl
  | nc =>
    show (if s.flagC then [] else pushAddrs s.cpu.sp) = if !s.flagC then pushAddrs s.cpu.sp else []
    cases s.flagC <;> rfl

/-- The byte fetched is the one at PC, and HL is as it was. -/
theorem imm8_ok {s t : State} {op2 : Byte} (h : imm8 s = .ok op2 t) : (∃ u, busRead16 s.cpu.pc s = .ok op2 u) ∧ t.hl = s.hl := by
  obtain ⟨b, u, hread, hok⟩ := Res.bind_eq_ok.mp h
  cases hok
  exact ⟨⟨u, hread⟩, hl_of_cpu (t := u) (busRead16_ok_cpu hread)⟩

theorem storeAddrs_prefix_CB {s : State} {op2 : Byte} (h : ∃ u, busRead16 s.cpu.pc s = .ok op2 u) :
    storeAddrs .prefix_CB s = prefixedStores op2 s.hl := by
  obtain ⟨u, hu⟩ := h
  show (match busRead16 s.cpu.pc s with | .ok op2 _ => prefixedStores op2 s.hl | .fatal _ => []) = _
  rw [hu]

/-- The two forms of an address in the high page (R151). -/
theorem highPage_eq (o : Byte) : highPage o = 0xFF00 ||| o.setWidth 16 := word16_eq_or 0xFF o

/-- An instruction stores at `storeAddrs` only. -/
theorem exec_storesAt {i : Instr} {s t : State} (ht : exec i s = .next t) : StoresAt (storeAddrs i s) s t := by
  cases i.shape with
  | ld y z h =>
    rw [exec_mkLd y z h] at ht
    refine .finish (.ld (fun hy => ?_) z) ht
    subst hy
    cases z
    case mHL => exact absurd ⟨rfl, rfl⟩ h
    all_goals exact .head _
  | alu op z => rw [exec_mkAlu] at ht; exact .finish (.aluR8 op z) ht
  | aluImm op n => rw [exec_mkAluImm] at ht; exact .finish (.alu op n) ht
  | inc8 y => rw [exec_mkInc8] at ht; exact .finish (.stepR8 (fun hy => by subst hy; exact .head _) _) ht
  | dec8 y => rw [exec_mkDec8] at ht; exact .finish (.stepR8 (fun hy => by subst hy; exact .head _) _) ht
  | ldImm y n => rw [exec_mkLdImm] at ht; exact .finish (.writeR8 (fun hy => by subst hy; exact .head _) n) ht
  | ldPairImm p a => rw [exec_mkLdPairImm] at ht; exact .finish (.setPair p a) ht
  | addHl p => rw [exec_mkAddHl] at ht; exact .finish (.setCpu s _) ht
  | inc16 p => rw [exec_mkInc16] at ht; exact .finish (.setPair p _) ht
  | dec16 p => rw [exec_mkDec16] at ht; exact .finish (.setPair p _) ht
  | storeA p => rw [exec_mkStoreA] at ht; exact .finish (.storeAPtr (by cases p <;> exact .head _)) ht
  | loadA p => rw [exec_mkLoadA] at ht; exact .finish (.loadAPtr p) ht
  | push p => rw [exec_mkPush] at ht; exact .finish (.push16 (by cases p <;> exact fun _ => id) _) ht
  | pop p => rw [exec_mkPop] at ht; exact .finish (.bind .pop16 fun _ _ _ => .setStkPair p _) ht
  | jrCc cc n => rw [exec_mkJrCc] at ht; exact .finishWith (.whenCond fun _ => .setCpu s _) ht
  | jpCc cc a => rw [exec_mkJpCc] at ht; exact .finishWith (.whenCond fun _ => .setCpu s _) ht
  | callCc cc a =>
    rw [exec_mkCallCc] at ht
    refine .finishWith (.whenCond fun hc => .callTo ?_ a) ht
    rw [storeAddrs_mkCallCc, if_pos hc]
    exact fun _ => id
  | retCc cc => rw [exec_mkRetCc] at ht; exact .finishWith (.whenCond fun _ => .ret) ht
  | rst k =>
    rw [exec_mkRst] at ht
    refine .finish (.callTo ?_ _) ht
    match k with
    | 0 | 1 | 2 | 3 | 4 | 5 | 6 | 7 => exact fun _ => id
  | shift op z => rw [exec_mkShift] at ht; exact .finish (.shiftR8 (fun hz => by subst hz; cases op <;> exact .head _) op) ht
  | bit k z => rw [exec_mkBit] at ht; exact .finish (.bitR8 k z) ht
  | res k z =>
    rw [exec_mkRes] at ht
    refine .finish (.resR8 (fun hz => ?_) k) ht
    subst hz
    match k with
    | 0 | 1 | 2 | 3 | 4 | 5 | 6 | 7 => exact .head _
  | set k z =>
    rw [exec_mkSet] at ht
    refine .finish (.setR8 (fun hz => ?_) k) ht
    subst hz
    match k with
    | 0 | 1 | 2 | 3 | 4 | 5 | 6 | 7 => exact .head _
  | ld_ma16_SP a => exact .finish (c := 5) (.memWriteWord (.head _) (.tail _ (.head _)) _) ht
  | call_a16 a => exact .finish (c := 6) (.callTo (fun _ => id) a) ht
  | ret => exact .finish (c := 4) .ret ht
  | reti => exact .finish (c := 4) (.bind .pop16 fun _ u _ => .setCpu u _) ht
  | prefix_CB =>
    refine .finishWith (.bind .imm8 fun op2 u hu => .bind (.execPrefixed ?_) fun _ _ _ => .refl) ht
    obtain ⟨hop2, hhl⟩ := imm8_ok hu
    rw [storeAddrs_prefix_CB hop2, hhl]
    exact fun _ => id
  | unknown op => exact .finish (c := 1) (r := raiseFatal _ s) (.fault .refl _) ht
  | ldh_ma8_A o => exact .finish (c := 3) (.storeA (by rw [highPage_eq]; exact .head _)) ht
  | ld_mC_A => exact .finish (c := 2) (.storeA (by rw [highPage_eq]; exact .head _)) ht
  | ld_ma16_A a => exact .finish (c := 4) (.storeA (.head _)) ht
  | ldh_A_ma8 o => exact .finish (c := 3) (.loadA _) ht
  | ld_A_mC => exact .finish (c := 2) (.loadA _) ht
  | ld_A_ma16 a => exact .finish (c := 4) (.loadA _) ht
  | nop => exact .done (c := 0) .refl ht
  | halt => exact .done (c := 0) .haltCpu ht
  | rlca | rrca | rla | rra | daa | cpl | scf | ccf | stop pad | di | ei => exact .done (c := 0) (.setCpu s _) ht
  | jr_e8 e => exact .done (c := 2) (.setCpu s _) ht
  | jp_a16 a => exact .done (c := 3) (.setCpu s _) ht
  | jp_HL => exact .done (c := 0) (.setCpu s _) ht
  | add_SP_e8 e => exact .done (c := 3) (.setCpu s _) ht
  | ld_HL_SPe8 e => exact .done (c := 2) (.setCpu s _) ht
  | ld_SP_HL => exact .done (c := 1) (.setCpu s _) ht

end Sys2Proof.Machine

/-! PROOFS. The frames of memory, what a write to a cell or to a plain register reads back as, and the round trip of the stack. -/

namespace Sys2Proof.Machine

/-! ### The frames -/

theorem OutsideKept.refl (s : State) : OutsideKept s s :=
  ⟨rfl, rfl, rfl, rfl, rfl, rfl, rfl, rfl, rfl, rfl, rfl, rfl, rfl, rfl⟩

theorem OutsideKept.trans {s t u : State} (h : OutsideKept s t) (h' : OutsideKept t u) : OutsideKept s u :=
  ⟨h'.params.trans h.params, h'.mode.trans h.mode, h'.bootLoaded.trans h.bootLoaded, h'.cartLoaded.trans h.cartLoaded,
    h'.doubleSpeed.trans h.doubleSpeed, h'.ints.trans h.ints, h'.banks.trans h.banks, h'.mem.trans h.mem,
    h'.timer.trans h.timer, h'.oamDma.trans h.oamDma, h'.hdma.trans h.hdma, h'.video.trans h.video,
    h'.buttons.trans h.buttons, h'.host.trans h.host⟩

theorem OutsideKept.withCpu (s : State) (c : Cpu) : OutsideKept s (s.withCpu c) :=
  ⟨rfl, rfl, rfl, rfl, rfl, rfl, rfl, rfl, rfl, rfl, rfl, rfl, rfl, rfl⟩

theorem OutsideKept.setFault (s : State) (e : Fault) : OutsideKept s (s.setFault e) :=
  ⟨rfl, rfl, rfl, rfl, rfl, rfl, rfl, rfl, rfl, rfl, rfl, rfl, rfl, rfl⟩

theorem busRead_outsideKept (a : Nat) (s : State) : OutsideKept s (busRead a s).state := by
  rw [busRead_only]
  exact ⟨rfl, rfl, rfl, rfl, rfl, rfl, rfl, rfl, rfl, rfl, rfl, rfl, rfl, rfl⟩

/-- With no address to store to nothing outside the CPU changes. -/
theorem StoresAt.outsideKept {s t : State} (h : StoresAt [] s t) : OutsideKept s t := by
  induction h with
  | refl => exact .refl s
  | cpu _ c ih => exact ih.trans (.withCpu _ c)
  | read _ a ih => exact ih.trans (busRead_outsideKept a _)
  | write _ ha => cases ha
  | fault _ e ih => exact ih.trans (.setFault _ e)

theorem svbkBank_ne_zero (v : Byte) : svbkBank v ≠ 0 := by
  unfold svbkBank
  dsimp only
  split
  · decide
  · assumption

theorem StoresAt.peek_of_nil {s t : State} (h : StoresAt [] s t) (a : Nat) : t.peek a = s.peek a := by
  induction h with
  | refl => rfl
  | cpu _ c ih => exact (peek_withCpu _ c a).trans ih
  | read _ b ih => exact (peek_busRead_state b a _).trans ih
  | write _ ha => cases ha
  | fault _ e ih => exact (peek_setFault _ e a).trans ih

/-- SVBK never selects bank 0 (R120), and no other write moves the bank of work RAM. -/
theorem busWrite_wramBank {s : State} (h : s.banks.wramBank ≠ 0) (a : Nat) (v : Byte) :
    (busWrite a v s).state.banks.wramBank ≠ 0 := by
  have heffect := busWrite_effect a v s
  generalize busWrite a v s = r at heffect
  cases heffect with
  | io off _ _ _ he =>
    cases he with
    | svbk => exact svbkBank_ne_zero v
    | lcdc => rw [Res.state_ok, writeLcdc_eq]; exact h
    | lyc => rw [Res.state_ok, writeLyc, compareLyc_eq]; exact h
    | hdma => obtain ⟨x, hx⟩ | ⟨e, hx⟩ := writeHdma_cases v s <;> rw [hx] <;> exact h
    | _ => exact h
  | _ => exact h

/-- What the frame of a store needs of the state it stores in, and what it says of the byte at `b`. -/
structure BytePreserved (b : Nat) (s t : State) : Prop where
  wf : Memory.wf t.mem
  wramBank : t.banks.wramBank ≠ 0
  params : t.params = s.params
  mode : t.mode = s.mode
  peek : t.peek b = s.peek b

/-- Every byte no store reaches is preserved. -/
theorem StoresAt.bytePreserved {as : List Word} {s t : State} (h : StoresAt as s t) (hwf : Memory.wf s.mem)
    (hbank : s.banks.wramBank ≠ 0) {b : Nat}
    (hb : ∀ a ∈ as, storeReach s.params.cartWrite s.mode a.toNat b = false) : BytePreserved b s t := by
  induction h with
  | refl => exact ⟨hwf, hbank, rfl, rfl, rfl⟩
  | cpu _ c ih => exact ⟨ih.wf, ih.wramBank, ih.params, ih.mode, (peek_withCpu _ c b).trans ih.peek⟩
  | fault _ e ih => exact ⟨ih.wf, ih.wramBank, ih.params, ih.mode, (peek_setFault _ e b).trans ih.peek⟩
  | @read u _ a ih =>
    have hkept := busRead_outsideKept a u
    exact ⟨busRead_wf a ih.wf, by rw [hkept.banks]; exact ih.wramBank, hkept.params.trans ih.params,
      hkept.mode.trans ih.mode, (peek_busRead_state a b u).trans ih.peek⟩
  | @write u _ a ha v ih =>
    have hkept := (busWrite_kept a.toNat v u).fixed
    have hreach : storeReach u.params.cartWrite u.mode a.toNat b = false := by
      rw [ih.params, ih.mode]
      exact hb a ha
    exact ⟨busWrite_wf _ v ih.wf, busWrite_wramBank ih.wramBank _ v, hkept.params.trans ih.params,
      hkept.mode.trans ih.mode, ((busWrite_effect a.toNat v u).peek_other ih.wf ih.wramBank hreach).trans ih.peek⟩

/-- Settles O22: with no address to store to, an instruction only changes the CPU, reads and raises fatal errors. -/
theorem nonStoringFrame : Obligations.NonStoringFrame := by
  intro i s t hnone ht
  have hstores := exec_storesAt ht
  rw [hnone] at hstores
  exact ⟨hstores.outsideKept, hstores.peek_of_nil⟩

/-- Settles O23: an instruction stores at `storeAddrs` only, and no store there reaches the byte. -/
theorem storingFrame : Obligations.StoringFrame := fun _ _ _ hwf hbanks ht _ hb =>
  ((exec_storesAt ht).bytePreserved hwf hbanks.wramBank hb).peek

/-! ### Reading back what was written -/

theorem peek_echo (s : State) {a : Nat} (h : 0xC000 ≤ a) (h' : a ≤ 0xDDFF) : s.peek (a + 0x2000) = s.peek a := by
  unfold State.peek
  rw [busRead_echo s h h']

/-- A write to a cell changes one segment of memory and reads back (R87). -/
theorem busWrite_isMemory {a : Nat} {v : Byte} {s t : State} (hwf : Memory.wf s.mem) (ha : s.isMemory a)
    (h : busWrite a v s = .ok () t) : t = s.setMem t.mem ∧ t.peek a = some v := by
  obtain ⟨-, -, -, hvram, hcartRam, hwram, hoam, -, hhram⟩ := hwf
  have hrange : (0x8000 ≤ a ∧ a ≤ 0xFE9F) ∨ (0xFF80 ≤ a ∧ a ≤ 0xFFFE) := ha.imp (fun h => ⟨h.1, h.2.1⟩) id
  have howns := locate_owns s.banks a
  have hecho := unEcho_cases a
  have heffect := busWrite_effect a v s
  rw [h] at heffect
  have hreads {m : Memory} (hr : (s.setMem m).peekRegion (locate s.banks a) = some v) :
      s.setMem m = s.setMem (s.setMem m).mem ∧ (s.setMem m).peek a = some v :=
    ⟨rfl, (peek_eq_peekRegion (s.setMem m) a).trans hr⟩
  cases heffect with
  | vram off hloc => exact hreads (hloc ▸ congrArg some (Bytes.read_write_same hvram off v))
  | wram off hloc => exact hreads (hloc ▸ congrArg some (Bytes.read_write_same hwram off v))
  | oam off hloc => exact hreads (hloc ▸ congrArg some (Bytes.read_write_same hoam off v))
  | hram off hloc => exact hreads (hloc ▸ congrArg some (Bytes.read_write_same hhram off v))
  | cartRam off hloc _ hc hr =>
    have hshown : (s.cartLoaded && s.cartRamMapped) = true := by simp [hc, hr]
    exact hreads (hloc ▸ (if_pos hshown).trans (congrArg some (Bytes.read_write_same hcartRam off v)))
  | noRam hr hlo hhi =>
    obtain ⟨-, -, hmapped⟩ | ⟨hhigh, -⟩ := ha
    · exact absurd (hr.symm.trans (hmapped hlo hhi)) (by decide)
    · omega
  | consumed | hook => omega
  | gap hloc | ie hloc | io _ _ hloc =>
    rw [hloc] at howns
    simp only [Region.owns] at howns
    omega

/-- A register with no read rule that differs from its write rule reads back what is written (R87, R93). -/
theorem IoEffect.ioPeek_same {v : Byte} {s t : State} {off : Nat} {r : Res Unit} (h : IoEffect v s off r)
    (hwf : Bytes.wf 128 s.mem.io) (ha : ¬(0x10 ≤ off ∧ off ≤ 0x3F)) (hrules : off ∉ [0x00, 0x04, 0x07, 0x0F, 0x41, 0x44])
    (hm : off ∈ cgbOffsets → s.mode = .dmg) (ht : r = .ok () t) : ioPeek off t = v := by
  have hraw : (s.setIoRaw off v).ioRaw off = v := Bytes.read_write_same hwf off v
  cases h with
  | audio _ haudio => exact absurd (of_decide_eq_true haudio) ha
  | joyp | div | tac | intFlag | stat | ly => exact absurd (by decide) hrules
  | key1 hc | vbk hc | hdma hc | bcps hc | bcpd hc | ocps hc | ocpd hc | svbk hc =>
    exact absurd (hc.symm.trans (hm (by decide))) (by decide)
  | tima | tma => cases ht; rfl
  | lcdc =>
    cases ht
    show (writeLcdc v s).video.lcdc.toByte = v
    rw [writeLcdc_lcdc, toByte_ofByte]
  | lyc =>
    cases ht
    exact (ioPeek_compareLyc_other (by decide) (s.setIoRaw 0x45 v)).trans hraw
  | dma | boot => cases ht; exact hraw
  | plain _ _ hplain =>
    cases ht
    by_cases hcgb : off ∈ cgbOffsets
    · exact (ioPeek_cgb_of_dmg (s := s.setIoRaw off v) (hm hcgb) hcgb).trans hraw
    · refine (ioPeek_plain (fun hr => ?_) (s.setIoRaw off v)).trans hraw
      simp only [readRules, cgbOffsets, List.mem_cons, List.not_mem_nil, or_false, not_or] at hr hcgb hplain
      omega

/-- Settles O33: a cell by `busWrite_isMemory`, a plain register by `ioPeek_same`; then the echo of a cell of work RAM. -/
theorem writeThenReadRoundTrip : Obligations.WriteThenReadRoundTrip := by
  intro a v s t hwf _ ha h
  have hpeek : t.peek a = some v := by
    obtain ha | ⟨off, rfl, hoff, hrules, haudio, hm⟩ := ha
    · exact (busWrite_isMemory hwf ha h).2
    · rw [busWrite_io s hoff] at h
      have hread : ioPeek off t = v :=
        (ioWrite_effect off v s).ioPeek_same hwf.2.2.2.2.2.2.2.1 haudio hrules hm h
      rw [peek_eq_peekRegion, locate_io (by omega) (by omega), Nat.add_sub_cancel_left]
      show (if isAudio off then none else some (ioPeek off t)) = some v
      rw [if_neg (by simpa [isAudio] using haudio), hread]
  refine ⟨hpeek, ?_⟩
  split
  · next hecho => exact (peek_echo t hecho.1 hecho.2).trans hpeek
  · exact hpeek

/-! ### The stack -/

/-- A byte an observer sees is the byte a read gives, and the read changes nothing. -/
theorem busRead_of_peek {s : State} {a : Nat} {v : Byte} (h : s.peek a = some v) : busRead a s = .ok v s := by
  unfold State.peek at h
  obtain ⟨w, hw⟩ | ⟨w, hw⟩ | ⟨e, hw⟩ := busRead_cases a s <;> rw [hw] at h
  · rw [hw]
    simpa using h
  · simp at h
  · cases h

/-- A pop of two bytes that read without a free value (R239). -/
theorem pop16_of_reads {t : State} {lo hi : Byte} (hlo : busRead16 t.cpu.sp t = .ok lo t)
    (hhi : busRead16 (t.cpu.sp + 1) t = .ok hi t) : pop16 t = .ok (word16 hi lo) (t.setSp (t.cpu.sp + 2)) := by
  have hhi' : busRead16 (t.cpu.sp + 1) (t.setSp (t.cpu.sp + 1)) = .ok hi (t.setSp (t.cpu.sp + 1)) := busRead16_withCpu hhi _
  have hsp : t.cpu.sp + 1 + 1 = t.cpu.sp + 2 := by bv_omega
  unfold pop16
  rw [hlo, Res.bind_ok]
  dsimp only [State.setSp_cpu_sp]
  rw [hhi', Res.bind_ok, State.setSp_cpu_sp, hsp]
  rfl

/-- A write to a cell reaches no other cell but through the echo. -/
theorem storeReach_cell {w : CartWrite} {m : Mode} {a b : Nat}
    (ha : 0x7FFF < a ∧ ¬(0xFF00 ≤ a ∧ a ≤ 0xFF7F)) (hab : unEcho a ≠ unEcho b) : storeReach w m a b = false := by
  unfold storeReach
  rw [if_neg (by omega), if_neg ha.2]
  simpa using hab.symm

/-- A push onto two cells (R238): both bytes read back, and SP moves by 2. -/
theorem push16_isMemory {v : Word} {s t : State} (hwf : Memory.wf s.mem) (hbank : s.banks.wramBank ≠ 0)
    (hhigh : s.isMemory (s.cpu.sp - 1).toNat) (hlow : s.isMemory (s.cpu.sp - 2).toNat) (h : push16 v s = .ok () t) :
    t.peek (s.cpu.sp - 2).toNat = some (lo8 v) ∧ t.peek (s.cpu.sp - 1).toNat = some (hi8 v) ∧
      t.cpu.sp = s.cpu.sp - 2 := by
  obtain ⟨⟨⟩, u, hu, ht⟩ := Res.bind_eq_ok.mp h
  replace hu : busWrite (s.cpu.sp - 1).toNat (hi8 v) (s.setSp (s.cpu.sp - 1)) = .ok () u := hu
  obtain ⟨hu_mem, hu_peek⟩ := busWrite_isMemory (s := s.setSp (s.cpu.sp - 1)) hwf hhigh hu
  have hu_wf : Memory.wf (busWrite (s.cpu.sp - 1).toNat (hi8 v) (s.setSp (s.cpu.sp - 1))).state.mem :=
    busWrite_wf _ _ hwf
  rw [hu] at hu_wf
  have hsp : u.cpu.sp - 1 = s.cpu.sp - 2 := by
    rw [hu_mem]
    show s.cpu.sp - 1 - 1 = s.cpu.sp - 2
    bv_omega
  dsimp only at ht
  rw [hsp] at ht
  replace ht : busWrite (s.cpu.sp - 2).toNat (lo8 v) (u.setSp (s.cpu.sp - 2)) = .ok () t := ht
  have hu_low : (u.setSp (s.cpu.sp - 2)).isMemory (s.cpu.sp - 2).toNat := by
    rw [hu_mem]
    exact hlow
  have hu_bank : (u.setSp (s.cpu.sp - 2)).banks.wramBank ≠ 0 := by
    rw [hu_mem]
    exact hbank
  obtain ⟨ht_mem, ht_peek⟩ := busWrite_isMemory (s := u.setSp (s.cpu.sp - 2)) hu_wf hu_low ht
  have hne : unEcho (s.cpu.sp - 2).toNat ≠ unEcho (s.cpu.sp - 1).toNat := by
    have hlow_echo := unEcho_cases (s.cpu.sp - 2).toNat
    have hhigh_echo := unEcho_cases (s.cpu.sp - 1).toNat
    have hsucc : (s.cpu.sp - 2).toNat + 1 = (s.cpu.sp - 1).toNat := by
      unfold State.isMemory at hhigh
      bv_omega
    omega
  have hcell : 0x7FFF < (s.cpu.sp - 2).toNat ∧ ¬(0xFF00 ≤ (s.cpu.sp - 2).toNat ∧ (s.cpu.sp - 2).toNat ≤ 0xFF7F) := by
    unfold State.isMemory at hlow
    omega
  have hkept := (busWrite_effect (s.cpu.sp - 2).toNat (lo8 v) (u.setSp (s.cpu.sp - 2))).peek_other
    hu_wf hu_bank (storeReach_cell hcell hne)
  rw [ht] at hkept
  refine ⟨ht_peek, hkept.trans ((peek_withCpu u _ _).trans hu_peek), ?_⟩
  rw [ht_mem]
  rfl

/-- Settles O8: the two cells differ, so the second write keeps the first byte; the pop reads both back. -/
theorem pushThenPopReturnsTheWord : Obligations.PushThenPopReturnsTheWord := by
  intro v s t hwf hbanks hhigh hlow h
  obtain ⟨hlo, hhi, hsp⟩ := push16_isMemory hwf hbanks.wramBank hhigh hlow h
  have hnext : s.cpu.sp - 2 + 1 = s.cpu.sp - 1 := by bv_omega
  have hback : s.cpu.sp - 2 + 2 = s.cpu.sp := by bv_omega
  have hpop := pop16_of_reads (t := t) (by rw [hsp]; exact busRead_of_peek hlo) (by rw [hsp, hnext]; exact busRead_of_peek hhi)
  rw [word16_hi8_lo8, hsp, hback] at hpop
  rw [← lo8_eq_ofNat, ← hi8_eq_ofNat]
  exact ⟨hlo, hhi, hsp, hpop⟩

end Sys2Proof.Machine

/-! PROOFS. Decoding and encoding. What `decode` does with any string of bytes comes first (`decode_append`,
`decode_ok_cases`), then that every row of both tables encodes to its own bytes; the statements of the encoding follow. -/

namespace Sys2Proof.Machine

/-! ### What `decode` answers -/

theorem opLength_prefixByte : opLength prefixByte = 2 := rfl

/-- No more than two bytes follow the first (R142). -/
theorem operands_cases {op : Byte} {bs : List Byte} (hlen : opLength op = bs.length + 1) :
    bs = [] ∨ (∃ b, bs = [b]) ∨ ∃ b b', bs = [b, b'] := by
  have hbound := (opLength_bounds op).2
  match bs with
  | [] => exact .inl rfl
  | [b] => exact .inr (.inl ⟨b, rfl⟩)
  | [b, b'] => exact .inr (.inr ⟨b, b', rfl⟩)
  | _ :: _ :: _ :: _ => simp only [List.length_cons] at hlen; omega

/-- One byte follows `prefixByte` (R157). -/
theorem operands_prefixByte {bs : List Byte} (hlen : opLength prefixByte = bs.length + 1) : ∃ b, bs = [b] :=
  List.length_eq_one_iff.mp (Nat.succ.inj hlen).symm

theorem eq_nil_of_short_prefixByte {bs : List Byte} (hlen : ¬opLength prefixByte ≤ bs.length + 1) : bs = [] := by
  rw [opLength_prefixByte] at hlen
  exact List.length_eq_zero_iff.mp (by omega)

/-- The instruction of the primary table, from as many bytes as its first one asks for (R142); a shorter one takes no
notice of the bytes it lacks. -/
theorem decodeFetched_primary {op : Byte} {bs : List Byte} (hlen : opLength op = bs.length + 1) (hp : op ≠ prefixByte) :
    decodeFetched op bs = decodePrimary op (bs.getD 0 0) (bs.getD 1 0) := by
  unfold decodeFetched
  obtain rfl | ⟨b, rfl⟩ | ⟨b, b', rfl⟩ := operands_cases hlen
  · rw [decode_one hlen hp]; rfl
  · rw [decode_two hlen hp]; rfl
  · rw [decode_three hlen hp]; rfl

/-- The bytes a first byte asks for are decoded, and what follows them is left. -/
theorem decode_append {op : Byte} {bs : List Byte} (hlen : opLength op = bs.length + 1) (rest : List Byte) :
    decode (op :: (bs ++ rest)) = .ok (decodeFetched op bs, rest) := by
  by_cases hp : op = prefixByte
  · subst hp
    obtain ⟨b, rfl⟩ := operands_prefixByte hlen
    exact decode_prefixed b rest
  · rw [decodeFetched_primary hlen hp]
    obtain rfl | ⟨b, rfl⟩ | ⟨b, b', rfl⟩ := operands_cases hlen
    · exact decode_one hlen hp rest
    · exact decode_two hlen hp b rest
    · exact decode_three hlen hp b b' rest

/-- With enough bytes for the length of the first one, `decode` takes as many as that. -/
theorem decode_of_length_le {op : Byte} {bs : List Byte} (hlen : opLength op ≤ bs.length + 1) :
    ∃ os rest, bs = os ++ rest ∧ opLength op = os.length + 1 ∧ decode (op :: bs) = .ok (decodeFetched op os, rest) := by
  have hpos := (opLength_bounds op).1
  have htake : opLength op = (bs.take (opLength op - 1)).length + 1 := by
    rw [List.length_take]
    omega
  have hsplit := List.take_append_drop (opLength op - 1) bs
  have hdecode := decode_append htake (bs.drop (opLength op - 1))
  rw [hsplit] at hdecode
  exact ⟨_, _, hsplit.symm, htake, hdecode⟩

/-- All that `decode` can answer from `op :: bs`: `prefixByte` alone (log entry 12), or the instruction of `op` and the
bytes its length asks for. -/
theorem decode_ok_cases {op : Byte} {bs rest : List Byte} {i : Instr} (h : decode (op :: bs) = .ok (i, rest)) :
    (op = prefixByte ∧ bs = [] ∧ i = .prefix_CB ∧ rest = []) ∨
      ∃ os, bs = os ++ rest ∧ opLength op = os.length + 1 ∧ i = decodeFetched op os := by
  by_cases hlen : opLength op ≤ bs.length + 1
  · obtain ⟨os, rest', rfl, hos, hdecode⟩ := decode_of_length_le hlen
    cases h.symm.trans hdecode
    exact .inr ⟨os, rfl, hos, rfl⟩
  · by_cases hp : op = prefixByte
    · subst hp
      obtain rfl := eq_nil_of_short_prefixByte hlen
      cases h
      exact .inl ⟨rfl, rfl, rfl, rfl⟩
    · rw [decode_short (by omega) hp (opLength_bounds op).2] at h
      cases h

/-! ### The bytes of each row of the tables -/

/-- `i` is an instruction, and `bs` its bytes. -/
structure EncodedAs (i : Instr) (bs : List Byte) : Prop where
  wellFormed : i.wellFormed = true
  bytes : encode i = bs

/-- The byte with the fields x, y and z (R149). -/
def opcodeByte (x : Fin 4) (y z : Fin 8) : Byte :=
  BitVec.ofFin (w := 2) x ++ BitVec.ofFin (w := 3) y ++ BitVec.ofFin (w := 3) z

theorem opcodeByte_fields (op : Byte) : opcodeByte (xField op) (yField op) (zField op) = op := by
  have hxy : op.extractLsb' 6 2 ++ op.extractLsb' 3 3 = op.extractLsb' 3 5 :=
    BitVec.extractLsb'_append_extractLsb'_eq_extractLsb' rfl
  have hxyz : op.extractLsb' 3 5 ++ op.extractLsb' 0 3 = op.extractLsb' 0 8 :=
    BitVec.extractLsb'_append_extractLsb'_eq_extractLsb' rfl
  show op.extractLsb' 6 2 ++ op.extractLsb' 3 3 ++ op.extractLsb' 0 3 = op
  rw [hxy, hxyz, BitVec.extractLsb'_eq_self]

/-- A sixteen-bit operand is encoded low byte first (R148). -/
theorem word16_bytes (lo hi : Byte) : [lo8 (word16 hi lo), hi8 (word16 hi lo)] = [lo, hi] := by
  rw [lo8_word16, hi8_word16]

/-- Each row of the primary table (R156) but that of `prefixByte` is encoded by its opcode byte and the operand bytes that it
takes. -/
theorem decodePrimary_row_encodedAs (x : Fin 4) (y z : Fin 8) (hp : opcodeByte x y z ≠ prefixByte) (b1 b2 : Byte) :
    EncodedAs (decodePrimary (opcodeByte x y z) b1 b2)
      (opcodeByte x y z :: [b1, b2].take (opLength (opcodeByte x y z) - 1)) := by
  have hword (op : Byte) := congrArg (op :: ·) (word16_bytes b1 b2)
  match x, z with
  | 0, 0 =>
    match y with
    | 1 => exact ⟨rfl, hword _⟩
    | 0 | 2 | 3 | 4 | 5 | 6 | 7 => exact ⟨rfl, rfl⟩
  | 0, 1 =>
    match y with
    | 0 | 2 | 4 | 6 => exact ⟨rfl, hword _⟩
    | 1 | 3 | 5 | 7 => exact ⟨rfl, rfl⟩
  | 3, 2 =>
    match y with
    | 0 | 1 | 2 | 3 | 5 | 7 => exact ⟨rfl, hword _⟩
    | 4 | 6 => exact ⟨rfl, rfl⟩
  | 3, 3 =>
    match y with
    | 0 => exact ⟨rfl, hword _⟩
    | 1 => exact absurd rfl hp
    | 2 | 3 | 4 | 5 | 6 | 7 => exact ⟨rfl, rfl⟩
  | 3, 4 =>
    match y with
    | 0 | 1 | 2 | 3 => exact ⟨rfl, hword _⟩
    | 4 | 5 | 6 | 7 => exact ⟨rfl, rfl⟩
  | 3, 5 =>
    match y with
    | 1 => exact ⟨rfl, hword _⟩
    | 0 | 2 | 3 | 4 | 5 | 6 | 7 => exact ⟨rfl, rfl⟩
  | 0, 2 | 0, 3 | 0, 4 | 0, 5 | 0, 6 | 0, 7 | 3, 0 | 3, 1 | 3, 6 | 3, 7 =>
    match y with
    | 0 | 1 | 2 | 3 | 4 | 5 | 6 | 7 => exact ⟨rfl, rfl⟩
  | 1, z | 2, z => fin_cases y <;> fin_cases z <;> exact ⟨rfl, rfl⟩

theorem decodePrimary_encodedAs {op : Byte} (hp : op ≠ prefixByte) (b1 b2 : Byte) :
    EncodedAs (decodePrimary op b1 b2) (op :: [b1, b2].take (opLength op - 1)) := by
  have hrow := decodePrimary_row_encodedAs (xField op) (yField op) (zField op)
  rw [opcodeByte_fields] at hrow
  exact hrow hp b1 b2

/-- Each row of the alternate table (R157) is encoded by `prefixByte` and its own. -/
theorem decodePrefixed_row_encodedAs (x : Fin 4) (y z : Fin 8) :
    EncodedAs (decodePrefixed (opcodeByte x y z)) [prefixByte, opcodeByte x y z] := by
  fin_cases x <;> fin_cases y <;> fin_cases z <;> exact ⟨rfl, rfl⟩

theorem decodePrefixed_encodedAs (op2 : Byte) : EncodedAs (decodePrefixed op2) [prefixByte, op2] := by
  have hrow := decodePrefixed_row_encodedAs (xField op2) (yField op2) (zField op2)
  rwa [opcodeByte_fields] at hrow

/-- What is decoded from as many bytes as the first one asks for is encoded by those bytes. -/
theorem decodeFetched_encodedAs {op : Byte} {bs : List Byte} (hlen : opLength op = bs.length + 1) :
    EncodedAs (decodeFetched op bs) (op :: bs) := by
  by_cases hp : op = prefixByte
  · subst hp
    obtain ⟨b, rfl⟩ := operands_prefixByte hlen
    exact decodePrefixed_encodedAs b
  · have hrow := decodePrimary_encodedAs hp (bs.getD 0 0) (bs.getD 1 0)
    rw [← decodeFetched_primary hlen hp, hlen] at hrow
    obtain rfl | ⟨b, rfl⟩ | ⟨b, b', rfl⟩ := operands_cases hlen <;> exact hrow

/-! ### The statements of the encoding -/

/-- Settles O26: every instruction but `prefix_CB` is fetched as its encoding, and `decode` takes the bytes fetched. -/
theorem decodeOfEncodeIsTheInstruction : Obligations.DecodeOfEncodeIsTheInstruction := by
  intro i hw
  have hdecode (hp : i ≠ .prefix_CB) (rest : List Byte) : decode (encode i ++ rest) = .ok (i, rest) := by
    obtain ⟨op, bs, hi⟩ := exists_fetchedAs hw hp
    rw [hi.bytes, List.cons_append, decode_append hi.length, hi.decoded]
  refine ⟨?_, hdecode⟩
  by_cases hp : i = .prefix_CB
  · subst hp
    rfl
  · simpa using hdecode hp []

/-- Settles O27: by what `decode` can answer, each row of the tables being encoded by its own bytes. -/
theorem decodedBytesAreTheEncoding : Obligations.DecodedBytesAreTheEncoding := by
  intro bs rest i h
  cases bs with
  | nil => cases h
  | cons op bs =>
    obtain ⟨rfl, rfl, rfl, rfl⟩ | ⟨os, rfl, hlen, rfl⟩ := decode_ok_cases h
    · exact ⟨rfl, rfl⟩
    · have henc := decodeFetched_encodedAs hlen
      rw [henc.bytes]
      exact ⟨henc.wellFormed, rfl⟩

/-- Settles O20: a byte decodes to the unknown opcode just when that instruction is well formed, by O26 and O27. -/
theorem unknownOpcodesAreFatal : Obligations.UnknownOpcodesAreFatal := by
  refine ⟨fun op rest => ⟨fun h => ?_, fun hop => ?_⟩, fun _ _ => rfl, fun op s => (opcodeFetchAndHaltBug s s op).1⟩
  · exact List.contains_iff_mem.mp (decodedBytesAreTheEncoding _ _ _ h).1
  · exact (decodeOfEncodeIsTheInstruction (.unknown op) (List.contains_iff_mem.mpr hop)).2 Instr.noConfusion rest

/-- Settles O28: the bounds of the length, then what `decode` can answer. -/
theorem lengthFromFirstByte : Obligations.LengthFromFirstByte := by
  intro op rest
  have hbounds := opLength_bounds op
  refine ⟨by omega, ⟨fun ⟨i, tail, h⟩ => ?_, fun h => ?_⟩, fun i tail h hi => ?_⟩
  · obtain ⟨hop, -⟩ | ⟨os, rfl, hlen, -⟩ := decode_ok_cases h
    · exact .inr hop
    · rw [hlen, List.length_append]
      exact .inl (by omega)
  · by_cases hlen : opLength op ≤ rest.length + 1
    · obtain ⟨os, tail, -, -, hdecode⟩ := decode_of_length_le hlen
      exact ⟨_, _, hdecode⟩
    · obtain rfl : op = prefixByte := h.resolve_left hlen
      obtain rfl := eq_nil_of_short_prefixByte hlen
      exact ⟨.prefix_CB, [], rfl⟩
  · obtain ⟨-, -, hprefix, -⟩ | ⟨os, -, hlen, rfl⟩ := decode_ok_cases h
    · exact absurd hprefix hi
    · rw [(decodeFetched_encodedAs hlen).bytes, hlen, List.length_cons]

/-- Settles O29: fifteen words, each decoded by evaluation. -/
theorem writtenOutWordsDecode : Obligations.WrittenOutWordsDecode :=
  ⟨rfl, rfl, rfl, rfl, rfl, rfl, rfl, rfl, rfl, rfl, rfl, rfl, rfl, rfl, rfl⟩

end Sys2Proof.Machine

/-! PROOFS. The prefix byte and the alternate table; the CPU step up to its fetch, case by case; the host's turn and the tick. -/

namespace Sys2Proof.Machine

/-! ### The prefix byte -/

theorem ofField_eq_mHL_iff (z : Fin 8) : R8.ofField z = .mHL ↔ z = 6 := by
  revert z
  decide

theorem finish_eq_finishWith (c : Nat) (r : Res Unit) : finish c r = finishWith (r.bind fun _ s => .ok c s) := by
  cases r <;> rfl

/-- The cost of an instruction of the alternate table is its entry there plus one, for the prefix byte (R294). -/
theorem one_add_tableCost (op2 : Byte) :
    1 + tableCost op2 = if R8.ofField (zField op2) = .mHL then (if xField op2 = 1 then 3 else 4) else 2 := by
  simp only [tableCost, ofField_eq_mHL_iff]
  split_ifs <;> rfl

/-- The instruction a second byte selects does what `execPrefixed` does, at its cost plus one (R179, R294). -/
theorem exec_decodePrefixed (op2 : Byte) (s : State) :
    exec (decodePrefixed op2) s = finishWith ((execPrefixed op2 s).bind fun cost s => .ok (1 + cost) s) := by
  have hend (r : Res Unit) : finish (if R8.ofField (zField op2) = .mHL then (if xField op2 = 1 then 3 else 4) else 2) r =
      finishWith ((r.bind fun _ s => .ok (tableCost op2) s).bind fun cost s => .ok (1 + cost) s) := by
    rw [← one_add_tableCost, finish_eq_finishWith]
    cases r <;> rfl
  unfold decodePrefixed execPrefixed
  dsimp only
  generalize xField op2 = x at hend ⊢
  match x with
  | 0 => exact (exec_mkShift _ _ s).trans (hend _)
  | 1 => exact (exec_mkBit _ _ s).trans (hend _)
  | 2 => exact (exec_mkRes _ _ s).trans (hend _)
  | 3 => exact (exec_mkSet _ _ s).trans (hend _)

/-- The prefix byte alone reads the second byte at PC and runs what it selects (R341). -/
theorem exec_prefix_CB_of_read {s t : State} {op2 : Byte} (h : busRead16 s.cpu.pc s = .ok op2 t) :
    exec .prefix_CB s = exec (decodePrefixed op2) (t.setPc (s.cpu.pc + 1)) := by
  have himm : imm8 s = .ok op2 (t.setPc (s.cpu.pc + 1)) := by
    unfold imm8
    rw [h, Res.bind_ok, busRead16_ok_cpu h]
  show finishWith ((imm8 s).bind _) = _
  rw [himm, Res.bind_ok, exec_decodePrefixed]

theorem exec_prefix_CB_of_fatal {s t : State} (h : busRead16 s.cpu.pc s = .fatal t) : exec .prefix_CB s = .next t := by
  have himm : imm8 s = .fatal t := by
    unfold imm8
    rw [h, Res.bind_fatal]
  show finishWith ((imm8 s).bind _) = _
  rw [himm]
  rfl

/-- Settles O16: the lone prefix byte by its read of the second byte, the table's instructions by `exec_decodePrefixed`. -/
theorem prefixByteRunsAlternateTable : Obligations.PrefixByteRunsAlternateTable := by
  refine ⟨decode_prefixed, rfl, fun op2 s t h => ?_, fun _ _ => exec_prefix_CB_of_fatal, fun op2 s => ?_⟩
  · obtain ⟨u, hu, -⟩ := exec_nextKept (decodePrefixed op2) (t.setPc (s.cpu.pc + 1))
    exact ⟨u, (exec_prefix_CB_of_read h).trans hu, hu⟩
  · rw [exec_decodePrefixed]
    cases execPrefixed op2 s with
    | ok cost t =>
      show Host.Outcome.next (t.setPending (1 + cost - 1)) = .next (t.setPending cost)
      rw [Nat.add_sub_cancel_left]
    | fatal t => rfl

/-! ### The CPU step -/

/-- After the reset work a CPU step is the Timer's step, then a pending cycle or the dispatch attempt (R172, R173, R176). -/
theorem cpuPrologue_of_not_reset {s : State} (h : s.cpu.runState ≠ .reset) : cpuPrologue s =
    if 0 < s.cpu.pendingCycles then .done ((timerStep s).setPending (s.cpu.pendingCycles - 1)) else afterPending (timerStep s) := by
  unfold cpuPrologue cpuBegin
  rw [if_neg h]
  dsimp only
  rw [timerStep_cpu]

theorem cpuStep_of_done {s t : State} (h : cpuPrologue s = .done t) : cpuStep s = .next t := by
  unfold cpuStep
  rw [h]

theorem cpuStep_of_fetch {s t : State} (h : cpuPrologue s = .fetch t) : cpuStep s = fetchExecute t := by
  unfold cpuStep
  rw [h]

theorem afterPending_of_fatal {s t : State} (h : interruptDispatch s = .fatal t) : afterPending s = .done t := by
  unfold afterPending
  rw [h]

theorem afterPending_of_dispatch {s t : State} {n : Nat} (h : interruptDispatch s = .ok n t) (hn : 0 < n) :
    afterPending s = .done (t.setPending (n - 1)) := by
  unfold afterPending
  rw [h]
  exact if_pos hn

theorem afterPending_of_no_dispatch {s t : State} (h : interruptDispatch s = .ok 0 t) : afterPending s = waitStates t := by
  unfold afterPending
  rw [h]
  rfl

/-- Taking an interrupt is charged (R362). -/
theorem takeInterrupt_cost {k : IntSource} {s t : State} {n : Nat} (h : takeInterrupt k s = .ok n t) : 0 < n := by
  obtain ⟨_, u, -, hu⟩ := Res.bind_eq_ok.mp h
  dsimp only at hu
  split at hu <;> cases hu <;> decide

/-- Where nothing is dispatched the state is as it was (R360). -/
theorem state_of_no_dispatch {s t : State} (h : interruptDispatch s = .ok 0 t) : t = s := by
  unfold interruptDispatch at h
  split at h
  · split at h
    · exact absurd (takeInterrupt_cost h) (Nat.lt_irrefl 0)
    · cases h; rfl
  · cases h; rfl

theorem waitStates_of_stopped {s : State} (h : s.cpu.runState = .stopped) : waitStates s =
    if s.ints.pending &&& s.params.stopWakeMask = 0 then .done s else .fetch (s.setRunState .running) := by
  unfold waitStates
  rw [h]

theorem waitStates_of_halted {s : State} (h : s.cpu.runState = .halted) : waitStates s =
    .done (if s.ints.enabled &&& s.ints.pending = 0 then s else s.setRunState .running) := by
  unfold waitStates
  rw [h]
  rfl

/-- Settles O41: what `cpuPrologue` answers, by the pending cycles, then by the dispatch attempt, then by the wait state. -/
theorem cpuStepOrder : Obligations.CpuStepOrder := by
  have hattempt {s : State} (hr : s.cpu.runState ≠ .reset) (hp : s.cpu.pendingCycles = 0) :
      cpuPrologue s = afterPending (timerStep s) := by
    rw [cpuPrologue_of_not_reset hr, hp, if_neg (Nat.lt_irrefl 0)]
  refine ⟨fun s hr => ⟨fun hp => ?_, fun hp t => ⟨fun n hd hn => ?_, fun hd => ?_, fun hrun hd => ?_⟩⟩,
    fun s hp => ?_⟩
  · exact cpuStep_of_done ((cpuPrologue_of_not_reset hr).trans (if_pos hp))
  · exact cpuStep_of_done ((hattempt hr hp).trans (afterPending_of_dispatch hd hn))
  · exact cpuStep_of_done ((hattempt hr hp).trans (afterPending_of_fatal hd))
  · obtain rfl := state_of_no_dispatch hd
    exact cpuStep_eq_fetchExecute (if_neg hr) (by rw [timerStep_cpu, hp]) hd (by rw [timerStep_cpu, hrun])
  · intro s1 hd
    have hrun : s1.cpu.runState = s.cpu.runState := by rw [timerStep_cpu]
    have hmask : s1.params = s.params := (timerStep_partsKept s).fixed.params
    have hwait (hr : s.cpu.runState ≠ .reset) : cpuPrologue s = waitStates s1 :=
      (hattempt hr hp).trans (afterPending_of_no_dispatch hd)
    refine ⟨fun hstop => ?_, fun hhalt => ?_⟩
    · have hprologue := (hwait (by simp [hstop])).trans (waitStates_of_stopped (hrun.trans hstop))
      rw [hmask] at hprologue
      exact ⟨fun h => cpuStep_of_done (hprologue.trans (if_pos h)), fun h => cpuStep_of_fetch (hprologue.trans (if_neg h))⟩
    · have hstep := cpuStep_of_done ((hwait (by simp [hhalt])).trans (waitStates_of_halted (hrun.trans hhalt)))
      exact ⟨fun h => by rw [hstep, if_pos h], fun h => by rw [hstep, if_neg h]⟩

/-! ### The step of the machine -/

/-- The next move of the host, left out once a move before it raised a fatal error (R350, R545). -/
def nextHostMove (r : Res Unit) (m : HostMove) : Res Unit := r.bind fun _ s => hostMove m s

theorem foldl_nextHostMove_fatal (l : List HostMove) (s : State) : l.foldl nextHostMove (.fatal s) = .fatal s := by
  induction l with
  | nil => rfl
  | cons m l ih => exact ih

theorem hostMoves_eq_foldl (l : List HostMove) (s : State) : hostMoves l s = l.foldl nextHostMove (.ok () s) := by
  induction l generalizing s with
  | nil => rfl
  | cons m l ih =>
    show (hostMove m s).bind (fun _ t => hostMoves l t) = l.foldl nextHostMove (hostMove m s)
    cases hostMove m s with
    | ok v t => exact ih t
    | fatal t => exact (foldl_nextHostMove_fatal l t).symm

/-- The moves before this tick are the head of the schedule, and its tail is what they leave (R545, log entry 11). -/
theorem hostTurn_eq_hostMoves (s : State) : hostTurn s = hostMoves (s.host.headD []) (s.setHost s.host.tail) := by
  unfold hostTurn
  cases hh : s.host with
  | nil =>
    show Res.ok () s = .ok () { s with host := [] }
    rw [← hh]
  | cons now later => rfl

theorem step_of_hostTurn_fatal {s t : State} (hf : s.fault = none) (h : hostTurn s = .fatal t) : step s = .next t := by
  unfold step
  rw [if_neg (by simp [hf]), h]

theorem step_of_hostTurn_ok {s t : State} (hf : s.fault = none) (h : hostTurn s = .ok () t) (ht : t.fault = none) :
    step s = goOn (cpuSteps t) peripherals := by
  unfold step
  rw [if_neg (by simp [hf]), h]
  exact if_neg (by simp [ht])

theorem goOn_next (t : State) (f : State → Out) : goOn (.next t) f = if t.fault = none then f t else .next t := by
  show (if t.fault.isSome = true then _ else _) = _
  cases t.fault <;> rfl

/-- Settles O44: the host's turn by how its moves end, then the CPU steps of the tick by the speed. -/
theorem tickOrderAndDoubleSpeed : Obligations.TickOrderAndDoubleSpeed := by
  intro s0 hf move turn
  have hmove : move = nextHostMove := by
    funext r m
    cases r with
    | ok v u => cases m <;> rfl
    | fatal u => rfl
  have hturn : turn = hostTurn s0 := by
    rw [hostTurn_eq_hostMoves, hostMoves_eq_foldl, ← hmove]
  obtain ⟨hhost, hends⟩ := hostMoves_ends (s0.host.headD []) (s0.setHost s0.host.tail)
  rw [← hostTurn_eq_hostMoves, ← hturn] at hhost hends
  refine ⟨fun s hs => ?_, fun s hs => ?_⟩
  · rw [hs] at hhost hends
    exact ⟨hends, hhost, step_of_hostTurn_fatal hf (hturn.symm.trans hs)⟩
  · rw [hs] at hhost hends
    have hfault : s.fault = none := hends.trans hf
    refine ⟨hfault, hhost, ?_⟩
    intro rest
    have hrest (t : State) : goOn (.next t) peripherals = rest t := goOn_next t peripherals
    have hstep : step s0 = goOn (cpuSteps s) peripherals := step_of_hostTurn_ok hf (hturn.symm.trans hs) hfault
    obtain ⟨t, ht, -⟩ := cpuStep_nextKept s
    refine ⟨t, ht, fun hspeed => ?_, fun hspeed => ?_⟩
    · have hcpu : cpuSteps s = .next t := by rw [cpuSteps, hspeed, ← ht]; rfl
      rw [hstep, hcpu, hrest]
    · obtain ⟨u, hu, -⟩ := cpuSteps_nextKept s
      have hcpu : cpuSteps s = if t.fault = none then cpuStep t else .next t := by
        rw [cpuSteps, hspeed, ht, ← goOn_next]; rfl
      exact ⟨u, hcpu.symm.trans hu, by rw [hstep, hu, hrest]⟩

end Sys2Proof.Machine

/-! PROOFS. The 8-bit loads (`spec/41_load8.md`): the rows of the opcode table that hold them, and what each form does by how its
one access to the Bus ends. -/

namespace Sys2Proof.Machine

/-! ### The rows of the opcode table -/

/-- The fields a byte is split into are those it is made of (R149). -/
theorem fields_opcodeByte (x : Fin 4) (y z : Fin 8) :
    xField (opcodeByte x y z) = x ∧ yField (opcodeByte x y z) = y ∧ zField (opcodeByte x y z) = z := by
  revert x y z
  decide

theorem decode_ld (y z : Fin 8) (rest : List Byte) :
    decode (opcodeByte 1 y z :: rest) = .ok (mkLd (.ofField y) (.ofField z), rest) := by
  have hlen : opLength (opcodeByte 1 y z) = 1 := by revert y z; decide
  have hp : opcodeByte 1 y z ≠ prefixByte := by revert y z; decide
  obtain ⟨hx, hy, hz⟩ := fields_opcodeByte 1 y z
  rw [decode_one hlen hp, decodePrimary, hx, hy, hz]

theorem decode_ldImm (y : Fin 8) (n : Byte) (rest : List Byte) :
    decode (opcodeByte 0 y 6 :: n :: rest) = .ok (mkLdImm (.ofField y) n, rest) := by
  have hlen : opLength (opcodeByte 0 y 6) = 2 := by revert y; decide
  have hp : opcodeByte 0 y 6 ≠ prefixByte := by revert y; decide
  obtain ⟨hx, hy, hz⟩ := fields_opcodeByte 0 y 6
  rw [decode_two hlen hp, decodePrimary, hx, hy, hz]

/-! ### How an instruction ends -/

theorem finish_of_ok {c : Nat} {r : Res Unit} {t : State} (h : r = .ok () t) : finish c r = .next (t.setPending (c - 1)) := by
  rw [h]
  rfl

theorem finish_of_fatal {c : Nat} {r : Res Unit} {t : State} (h : r = .fatal t) : finish c r = .next t := by
  rw [h]
  rfl

/-! ### Registers and (HL) -/

theorem readR8_of_ne_mHL {r : R8} (h : r ≠ .mHL) (s : State) : readR8 r s = .ok (s.reg r) s := by
  cases r
  case mHL => exact absurd rfl h
  all_goals rfl

theorem writeR8_of_ne_mHL {r : R8} (h : r ≠ .mHL) (v : Byte) (s : State) : writeR8 r v s = .ok () (s.setReg r v) := by
  cases r
  case mHL => exact absurd rfl h
  all_goals rfl

/-- R200. -/
theorem exec_mkLd_registers {y z : R8} (hy : y ≠ .mHL) (hz : z ≠ .mHL) (s : State) :
    exec (mkLd y z) s = .next ((s.setReg y (s.reg z)).setPending 0) := by
  rw [exec_mkLd y z (by simp [hy]), if_neg (by simp [hy, hz]), ld, readR8_of_ne_mHL hz, Res.bind_ok, writeR8_of_ne_mHL hy]
  rfl

/-- R201: a load from (HL) ends as its read does. -/
theorem exec_mkLd_from_mHL {r : R8} (hr : r ≠ .mHL) (s : State) :
    exec (mkLd r .mHL) s = finish 2 ((busRead16 s.hl s).bind fun v t => .ok () (t.setReg r v)) := by
  rw [exec_mkLd r .mHL (by simp [hr]), if_pos (.inr rfl)]
  simp only [ld, writeR8_of_ne_mHL hr]
  rfl

/-- R202: a load to (HL) ends as its write does. -/
theorem exec_mkLd_to_mHL {r : R8} (hr : r ≠ .mHL) (s : State) :
    exec (mkLd .mHL r) s = finish 2 (busWrite16 s.hl (s.reg r) s) := by
  rw [exec_mkLd .mHL r (by simp [hr]), if_pos (.inl rfl), ld, readR8_of_ne_mHL hr]
  rfl

/-- R203. -/
theorem exec_mkLdImm_register {y : R8} (hy : y ≠ .mHL) (n : Byte) (s : State) :
    exec (mkLdImm y n) s = .next ((s.setReg y n).setPending 1) := by
  rw [exec_mkLdImm, if_neg hy, ldImm, writeR8_of_ne_mHL hy]
  rfl

/-- R204. -/
theorem exec_ld_mHL_d8 (n : Byte) (s : State) : exec (.ld_mHL_d8 n) s = finish 3 (busWrite16 s.hl n s) := rfl

/-- Settles O1: the rows of the opcode table, then each form by how its access to (HL), if it has one, ends. -/
theorem loadRegisters : Obligations.LoadRegisters := by
  refine ⟨⟨fun y z rest _ _ => decode_ld y.toFin z.toFin rest, fun y z s hy hz => exec_mkLd_registers hy hz s⟩,
    ⟨fun y rest _ => ⟨decode_ld y.toFin 6 rest, decode_ld 6 y.toFin rest⟩, fun r s t hr => ?_⟩,
    ⟨fun y n rest => decode_ldImm y.toFin n rest, fun n s t => ?_⟩⟩
  · rw [exec_mkLd_from_mHL hr, exec_mkLd_to_mHL hr]
    exact ⟨fun v h => finish_of_ok (by rw [h, Res.bind_ok]), fun h => finish_of_fatal (by rw [h, Res.bind_fatal]),
      finish_of_ok, finish_of_fatal⟩
  · rw [exec_ld_mHL_d8]
    exact ⟨fun y hy => exec_mkLdImm_register hy n s, finish_of_ok, finish_of_fatal⟩

/-! ### The accumulator -/

theorem loadA_of_ok {a : Word} {s t : State} {v : Byte} (h : busRead16 a s = .ok v t) : loadA a s = .ok () (t.setA v) := by
  rw [loadA, h, Res.bind_ok]

theorem loadA_of_fatal {a : Word} {s t : State} (h : busRead16 a s = .fatal t) : loadA a s = .fatal t := by
  rw [loadA, h, Res.bind_fatal]

/-- R205, R206, R217, R218: the pointer is stepped after the read. -/
theorem exec_mkLoadA_of_ok {p : R16Mem} {s t : State} {v : Byte} (h : busRead16 (s.memPtr p) s = .ok v t) :
    exec (mkLoadA p) s = .next (((t.setA v).stepPtr p).setPending 1) := by
  rw [exec_mkLoadA, loadAPtr, loadA_of_ok h]
  rfl

theorem exec_mkLoadA_of_fatal {p : R16Mem} {s t : State} (h : busRead16 (s.memPtr p) s = .fatal t) :
    exec (mkLoadA p) s = .next t := by
  rw [exec_mkLoadA, loadAPtr, loadA_of_fatal h]
  rfl

/-- R207, R208, R215, R216: the pointer is stepped after the write. -/
theorem exec_mkStoreA_of_ok {p : R16Mem} {s t : State} (h : busWrite16 (s.memPtr p) s.cpu.a s = .ok () t) :
    exec (mkStoreA p) s = .next ((t.stepPtr p).setPending 1) := by
  rw [exec_mkStoreA, storeAPtr, storeA, h]
  rfl

theorem exec_mkStoreA_of_fatal {p : R16Mem} {s t : State} (h : busWrite16 (s.memPtr p) s.cpu.a s = .fatal t) :
    exec (mkStoreA p) s = .next t := by
  rw [exec_mkStoreA, storeAPtr, storeA, h]
  rfl

/-- With HL kept by the access, its step is from the value before (R146). -/
theorem stepPtr_of_hl {s t : State} (h : t.hl = s.hl) :
    t.stepPtr .hlInc = t.setHl (s.hl + 1) ∧ t.stepPtr .hlDec = t.setHl (s.hl - 1) := by
  rw [← h]
  exact ⟨rfl, rfl⟩

/-- The high page is the I/O registers, HRAM and IE, whose reads are never fatal (R76). -/
theorem busRead16_highPage (o : Byte) (s : State) : ∃ v t, busRead16 (highPage o) s = .ok v t := by
  have ho := o.isLt
  have ha := highPage_toNat o
  exact busRead_total s (by omega) (by omega)

/-- Settles O2: through a pointer by `exec_mkLoadA_of_ok` and its companions, HL being kept by the access; else by the access
alone. -/
theorem accumulatorLoadsAndStores : Obligations.AccumulatorLoadsAndStores := by
  refine ⟨⟨fun rest => ?_, fun s t => ?_⟩, fun lo hi o rest => ?_, fun a o s t => ?_⟩
  · and_intros
    all_goals exact decode_one rfl (by decide) rest
  · refine ⟨fun _ => exec_mkLoadA_of_ok (p := .bc), fun _ => exec_mkLoadA_of_ok (p := .de), fun v h => ?_,
      exec_mkStoreA_of_ok (p := .bc), exec_mkStoreA_of_ok (p := .de), fun h => ?_,
      exec_mkLoadA_of_fatal (p := .bc), exec_mkLoadA_of_fatal (p := .de),
      fun h => ⟨exec_mkLoadA_of_fatal (p := .hlInc) h, exec_mkLoadA_of_fatal (p := .hlDec) h⟩,
      exec_mkStoreA_of_fatal (p := .bc), exec_mkStoreA_of_fatal (p := .de),
      fun h => ⟨exec_mkStoreA_of_fatal (p := .hlInc) h, exec_mkStoreA_of_fatal (p := .hlDec) h⟩⟩
    · have hhl : (t.setA v).hl = s.hl := hl_of_cpu (t := t) (busRead16_ok_cpu h)
      obtain ⟨hinc, hdec⟩ := stepPtr_of_hl hhl
      rw [← hinc, ← hdec]
      exact ⟨exec_mkLoadA_of_ok (p := .hlInc) h, exec_mkLoadA_of_ok (p := .hlDec) h⟩
    · obtain ⟨hinc, hdec⟩ := stepPtr_of_hl (hl_of_cpu (busWrite16_ok_cpu h))
      rw [← hinc, ← hdec]
      exact ⟨exec_mkStoreA_of_ok (p := .hlInc) h, exec_mkStoreA_of_ok (p := .hlDec) h⟩
  · exact ⟨decode_three rfl (by decide) lo hi rest, decode_three rfl (by decide) lo hi rest, decode_two rfl (by decide) o rest,
      decode_two rfl (by decide) o rest, decode_one rfl (by decide) rest, decode_one rfl (by decide) rest⟩
  · rw [← highPage_eq, ← highPage_eq]
    exact ⟨fun v h => finish_of_ok (c := 4) (loadA_of_ok h), fun h => finish_of_fatal (c := 4) (loadA_of_fatal h),
      finish_of_ok (c := 4), finish_of_fatal (c := 4),
      fun v h => finish_of_ok (c := 3) (loadA_of_ok h), busRead16_highPage o s, finish_of_ok (c := 3), finish_of_fatal (c := 3),
      fun v h => finish_of_ok (c := 2) (loadA_of_ok h), finish_of_ok (c := 2), finish_of_fatal (c := 2)⟩

end Sys2Proof.Machine

/-! PROOFS. The 16-bit loads, the stack and SP plus a displacement (`spec/42_load16_stack.md`): the rows of the opcode table that
take a pair, then what each shared operation does by how its accesses to the Bus end. -/

namespace Sys2Proof.Machine

/-! ### The rows of the opcode table that take a pair -/

/-- The byte with the fields x and p, and the column `c = op[3:0]` of the grid (R149, R158). -/
def pairByte (x p : Fin 4) (c : Fin 16) : Byte :=
  BitVec.ofFin (w := 2) x ++ BitVec.ofFin (w := 2) p ++ BitVec.ofFin (w := 4) c

/-- A one-byte row, decoded whatever follows it, for each pair. -/
theorem decode_pairByte {x : Fin 4} {c : Fin 16} {i : Fin 4 → Instr}
    (hop : ∀ p, opLength (pairByte x p c) = 1 ∧ pairByte x p c ≠ prefixByte)
    (hrow : ∀ p, decodePrimary (pairByte x p c) 0 0 = i p) (p : Fin 4) (rest : List Byte) :
    decode (pairByte x p c :: rest) = .ok (i p, rest) := by
  obtain ⟨hlen, hprefix⟩ := hop p
  rw [decode_one hlen hprefix, hrow]

theorem decode_ldPairImm (p : Fin 4) (lo hi : Byte) (rest : List Byte) :
    decode (pairByte 0 p 1 :: lo :: hi :: rest) = .ok (mkLdPairImm (.ofField p) (word16 hi lo), rest) := by
  have hlen : opLength (pairByte 0 p 1) = 3 := by revert p; decide
  have hprefix : pairByte 0 p 1 ≠ prefixByte := by revert p; decide
  have hrow : decodePrimary (pairByte 0 p 1) lo hi = mkLdPairImm (.ofField p) (word16 hi lo) := by
    match p with
    | 0 | 1 | 2 | 3 => rfl
  rw [decode_three hlen hprefix, hrow]

theorem decode_inc16 (p : Fin 4) (rest : List Byte) :
    decode (pairByte 0 p 3 :: rest) = .ok (mkInc16 (.ofField p), rest) :=
  decode_pairByte (i := fun p => mkInc16 (.ofField p)) (by decide) (by decide) p rest

theorem decode_dec16 (p : Fin 4) (rest : List Byte) :
    decode (pairByte 0 p 11 :: rest) = .ok (mkDec16 (.ofField p), rest) :=
  decode_pairByte (i := fun p => mkDec16 (.ofField p)) (by decide) (by decide) p rest

theorem decode_push (p : Fin 4) (rest : List Byte) :
    decode (pairByte 3 p 5 :: rest) = .ok (mkPush (.ofField p), rest) :=
  decode_pairByte (i := fun p => mkPush (.ofField p)) (by decide) (by decide) p rest

theorem decode_pop (p : Fin 4) (rest : List Byte) :
    decode (pairByte 3 p 1 :: rest) = .ok (mkPop (.ofField p), rest) :=
  decode_pairByte (i := fun p => mkPop (.ofField p)) (by decide) (by decide) p rest

/-! ### SP plus a displacement -/

/-- Writing four flags is writing F: its low bits are 0 already (R25). -/
theorem State.setFlags_eq (s : State) (z n h c : Bool) :
    s.setFlags z n h c = { s with cpu := { s.cpu with f := packFlags z n h c } } := by
  show { s with cpu := { s.cpu with f := packFlags z n h c &&& 240#8 } } = _
  rw [packFlags_and]

/-- R233, R283: the sum is that of the integers, narrowed. -/
theorem addSigned_sum (sp : Word) (e : Byte) : (addSigned sp e).1 = BitVec.ofInt 16 (sp.toNat + e.toInt) := add_sext8 sp e

/-- R233, R283: H and C are the carries out of bits 3 and 7 of the unsigned sum. -/
theorem packFlags_addSigned (sp : Word) (e : Byte) :
    packFlags false false (addSigned sp e).2.1 (addSigned sp e).2.2 = BitVec.ofNat 8 (
      (if sp.toNat % 16 + e.toNat % 16 > 15 then 0x20 else 0) + (if sp.toNat % 256 + e.toNat > 255 then 0x10 else 0)) := by
  rw [packFlags_eq]
  simp [addSigned, lowNibble]

/-- R233. -/
theorem exec_ld_HL_SPe8 (e : Byte) (s : State) :
    exec (.ld_HL_SPe8 e) s = .next (((s.setHl (addSigned s.cpu.sp e).1).setFlags false false
      (addSigned s.cpu.sp e).2.1 (addSigned s.cpu.sp e).2.2).setPending 2) := rfl

/-- R283. -/
theorem exec_add_SP_e8 (e : Byte) (s : State) :
    exec (.add_SP_e8 e) s = .next (((s.setSp (addSigned s.cpu.sp e).1).setFlags false false
      (addSigned s.cpu.sp e).2.1 (addSigned s.cpu.sp e).2.2).setPending 3) := rfl

/-- Settles O6: the sum by `addSigned_sum`, the flags by `packFlags_addSigned`. -/
theorem stackPointerPlusDisplacement : Obligations.StackPointerPlusDisplacement := by
  refine ⟨fun e rest => ⟨decode_two rfl (by decide) e rest, decode_two rfl (by decide) e rest⟩, fun e s => ?_⟩
  dsimp only
  rw [exec_ld_HL_SPe8, exec_add_SP_e8, State.setFlags_eq, State.setFlags_eq, packFlags_addSigned, addSigned_sum]
  exact ⟨rfl, rfl⟩

/-! ### Two bytes at a time -/

/-- R75: after the write of the low byte the store goes on with the high byte, one above. -/
theorem memWriteWord_of_ok {a v : Word} {s t : State} (h : busWrite16 a (lo8 v) s = .ok () t) :
    memWriteWord a v s = busWrite16 (a + 1) (hi8 v) t := by
  rw [memWriteWord, h, Res.bind_ok]

theorem memWriteWord_of_fatal {a v : Word} {s t : State} (h : busWrite16 a (lo8 v) s = .fatal t) :
    memWriteWord a v s = .fatal t := by
  rw [memWriteWord, h, Res.bind_fatal]

/-- R238: after the write of the high byte the push goes on with the low byte, one below. -/
theorem push16_of_ok {v : Word} {s t : State}
    (h : busWrite16 (s.cpu.sp - 1) (hi8 v) (s.setSp (s.cpu.sp - 1)) = .ok () t) :
    push16 v s = busWrite16 (s.cpu.sp - 2) (lo8 v) (t.setSp (s.cpu.sp - 2)) := by
  have hsp : t.cpu.sp - 1 = s.cpu.sp - 2 := by
    rw [busWrite16_ok_cpu h, State.setSp_cpu_sp]
    bv_omega
  rw [← hsp, push16]
  dsimp only [State.setSp_cpu_sp]
  rw [h, Res.bind_ok]

theorem push16_of_fatal {v : Word} {s t : State}
    (h : busWrite16 (s.cpu.sp - 1) (hi8 v) (s.setSp (s.cpu.sp - 1)) = .fatal t) : push16 v s = .fatal t := by
  rw [push16]
  dsimp only [State.setSp_cpu_sp]
  rw [h, Res.bind_fatal]

/-- R239: after the read of the low byte the pop goes on with the high byte, one above. -/
theorem pop16_of_low {s t : State} {lo : Byte} (h : busRead16 s.cpu.sp s = .ok lo t) :
    pop16 s = (busRead16 (s.cpu.sp + 1) (t.setSp (s.cpu.sp + 1))).bind fun hi u =>
      .ok (word16 hi lo) (u.setSp (u.cpu.sp + 1)) := by
  rw [pop16, h, Res.bind_ok, busRead16_ok_cpu h]
  rfl

theorem pop16_of_ok {s t u : State} {lo hi : Byte} (hlo : busRead16 s.cpu.sp s = .ok lo t)
    (hhi : busRead16 (s.cpu.sp + 1) (t.setSp (s.cpu.sp + 1)) = .ok hi u) :
    pop16 s = .ok (word16 hi lo) (u.setSp (s.cpu.sp + 2)) := by
  have hsp : u.cpu.sp + 1 = s.cpu.sp + 2 := by
    rw [busRead16_ok_cpu hhi, State.setSp_cpu_sp]
    bv_omega
  rw [pop16_of_low hlo, hhi, Res.bind_ok, hsp]

theorem pop16_of_fatal {s t : State} (h : busRead16 s.cpu.sp s = .fatal t) : pop16 s = .fatal t := by
  rw [pop16, h, Res.bind_fatal]

/-! ### The instructions -/

/-- Settles O4: the four rows, and the shared operation of each for the pair. -/
theorem pairLoadIncrementDecrement : Obligations.PairLoadIncrementDecrement :=
  ⟨fun p lo hi rest => ⟨decode_ldPairImm p.toFin lo hi rest, decode_inc16 p.toFin rest, decode_dec16 p.toFin rest,
      decode_one rfl (by decide) rest⟩,
    fun n s => ⟨exec_mkLdPairImm .bc n s, exec_mkLdPairImm .de n s, exec_mkLdPairImm .hl n s, exec_mkLdPairImm .sp n s, rfl,
      exec_mkInc16 .bc s, exec_mkInc16 .de s, exec_mkInc16 .hl s, exec_mkInc16 .sp s,
      exec_mkDec16 .bc s, exec_mkDec16 .de s, exec_mkDec16 .hl s, exec_mkDec16 .sp s⟩⟩

/-- R231. -/
theorem exec_ld_ma16_SP (a : Word) (s : State) : exec (.ld_ma16_SP a) s = finish 5 (memWriteWord a s.cpu.sp s) := rfl

/-- Settles O5: by how the write of the low byte ends, then that of the high byte. -/
theorem storeStackPointer : Obligations.StoreStackPointer := by
  refine ⟨fun lo hi rest => decode_three rfl (by decide) lo hi rest, fun a s t u => ?_⟩
  rw [← lo8_eq_ofNat, ← hi8_eq_ofNat, exec_ld_ma16_SP]
  refine ⟨fun h => ?_, fun h => finish_of_fatal (memWriteWord_of_fatal h)⟩
  rw [memWriteWord_of_ok h]
  exact ⟨finish_of_ok, finish_of_fatal⟩

/-- Settles O7: the two primitives by how each access ends, then the instructions by how their primitive ends. -/
theorem pushAndPop : Obligations.PushAndPop := by
  refine ⟨fun v s t => ?_, fun p rest => ⟨decode_push p.toFin rest, decode_pop p.toFin rest⟩, fun s t p v => ?_⟩
  · rw [← hi8_eq_ofNat, ← lo8_eq_ofNat]
    refine ⟨push16_of_ok, push16_of_fatal, fun lo hlo => ⟨fun hi u hhi => ?_, fun u hhi => ?_⟩, pop16_of_fatal⟩
    · rw [← word16_eq_ofNat]
      exact pop16_of_ok hlo hhi
    · rw [pop16_of_low hlo, hhi, Res.bind_fatal]
  · rw [exec_mkPush, exec_mkPop, ← hi8_eq_ofNat, ← lo8_eq_ofNat]
    cases p
    all_goals exact ⟨finish_of_ok, finish_of_fatal, fun h => finish_of_ok (by rw [h, Res.bind_ok]; rfl),
      fun h => finish_of_fatal (by rw [h, Res.bind_fatal])⟩

end Sys2Proof.Machine

/-! PROOFS. The 8-bit arithmetic and logic (`spec/43_alu8.md`): the rows of the opcode table that hold it, the results and flags
as whole numbers, and what each form does by how its accesses to (HL) end. -/

namespace Sys2Proof.Machine

/-! ### The rows of the opcode table -/

/-- A one-byte row of the primary table, decoded whatever follows it, for each value of the field y. -/
theorem decode_opcodeByte {x : Fin 4} {z : Fin 8} {i : Fin 8 → Instr}
    (hop : ∀ y, opLength (opcodeByte x y z) = 1 ∧ opcodeByte x y z ≠ prefixByte)
    (hrow : ∀ y, decodePrimary (opcodeByte x y z) 0 0 = i y) (y : Fin 8) (rest : List Byte) :
    decode (opcodeByte x y z :: rest) = .ok (i y, rest) := by
  obtain ⟨hlen, hprefix⟩ := hop y
  rw [decode_one hlen hprefix, hrow]

theorem decode_alu (y z : Fin 8) (rest : List Byte) :
    decode (opcodeByte 2 y z :: rest) = .ok (mkAlu (.ofField y) (.ofField z), rest) :=
  decode_opcodeByte (i := fun y => mkAlu (.ofField y) (.ofField z)) (by revert z; decide) (by revert z; decide) y rest

theorem decode_inc8 (y : Fin 8) (rest : List Byte) :
    decode (opcodeByte 0 y 4 :: rest) = .ok (mkInc8 (.ofField y), rest) :=
  decode_opcodeByte (i := fun y => mkInc8 (.ofField y)) (by decide) (by decide) y rest

theorem decode_dec8 (y : Fin 8) (rest : List Byte) :
    decode (opcodeByte 0 y 5 :: rest) = .ok (mkDec8 (.ofField y), rest) :=
  decode_opcodeByte (i := fun y => mkDec8 (.ofField y)) (by decide) (by decide) y rest

theorem decode_aluImm (y : Fin 8) (n : Byte) (rest : List Byte) :
    decode (opcodeByte 3 y 6 :: n :: rest) = .ok (mkAluImm (.ofField y) n, rest) := by
  have hlen : opLength (opcodeByte 3 y 6) = 2 := by revert y; decide
  have hp : opcodeByte 3 y 6 ≠ prefixByte := by revert y; decide
  obtain ⟨hx, hy, hz⟩ := fields_opcodeByte 3 y 6
  rw [decode_two hlen hp, decodePrimary, hx, hy, hz]

/-! ### The accumulator operations -/

theorem aluR8_of_ne_mHL {z : R8} (hz : z ≠ .mHL) (op : AluOp) (s : State) :
    aluR8 op z s = .ok () (s.alu op (s.reg z)) := by
  rw [aluR8, readR8_of_ne_mHL hz, Res.bind_ok]

theorem aluR8_mHL (op : AluOp) (s : State) :
    aluR8 op .mHL s = (busRead16 s.hl s).bind fun x t => .ok () (t.alu op x) := rfl

/-- Settles O9: the rows of the opcode table, then each form by how its read, if it has one, ends. -/
theorem accumulatorOperandForms : Obligations.AccumulatorOperandForms := by
  refine ⟨fun y z n rest => ⟨decode_alu y.toFin z.toFin rest, decode_aluImm y.toFin n rest⟩, fun op z n x s t => ?_⟩
  rw [exec_mkAlu, exec_mkAlu, exec_mkAluImm, if_pos rfl, aluR8_mHL]
  refine ⟨fun hz => ?_, fun h => finish_of_ok (by rw [h, Res.bind_ok]), fun h => finish_of_fatal (by rw [h, Res.bind_fatal]),
    finish_of_ok rfl⟩
  rw [if_neg hz]
  exact finish_of_ok (aluR8_of_ne_mHL hz op s)

/-- The F register of four flags given as propositions about exact values (R24, R250). -/
def flagByte (z n h c : Prop) [Decidable z] [Decidable n] [Decidable h] [Decidable c] : Byte :=
  BitVec.ofNat 8 ((if z then 0x80 else 0) + (if n then 0x40 else 0) + (if h then 0x20 else 0) + (if c then 0x10 else 0))

/-- The four flags of a result as the F register (R24). -/
def AluResult.flags (r : AluResult) : Byte := packFlags r.z r.n r.h r.c

theorem AluResult.flags_eq {r : AluResult} {z n h c : Prop} [Decidable z] [Decidable n] [Decidable h] [Decidable c]
    (hz : r.z = decide z) (hn : r.n = decide n) (hh : r.h = decide h) (hc : r.c = decide c) :
    r.flags = flagByte z n h c := by
  rw [AluResult.flags, hz, hn, hh, hc, packFlags_eq]
  simp only [decide_eq_true_eq]
  rfl

/-- R251 to R258: only A, but for CP, and F change. -/
theorem State.alu_eq (s : State) (op : AluOp) (x : Byte) :
    s.alu op x = { s with cpu := { s.cpu with
      a := if op = .cp then s.cpu.a else (aluResult op s.cpu.a x s.flagC).res
      f := (aluResult op s.cpu.a x s.flagC).flags } } := by
  rw [State.alu]
  dsimp only
  rw [State.setFlags_eq]
  cases op
  all_goals rfl

theorem State.alu_of_result {s : State} {op : AluOp} {x v f : Byte} (hop : op ≠ .cp)
    (hv : (aluResult op s.cpu.a x s.flagC).res = v) (hf : (aluResult op s.cpu.a x s.flagC).flags = f) :
    s.alu op x = { s with cpu := { s.cpu with a := v, f := f } } := by
  rw [State.alu_eq, if_neg hop, hv, hf]

theorem ofNat_beq_zero (n : Nat) : (BitVec.ofNat 8 n == 0) = decide (n % 256 = 0) := by
  rw [beq_eq_decide, decide_eq_decide, ← BitVec.toNat_inj, BitVec.toNat_ofNat]
  rfl

theorem addBytes_flags (a x : Byte) (c : Bool) :
    (addBytes a x c).flags = flagByte ((a.toNat + x.toNat + bitNat c) % 256 = 0) False
      (a.toNat % 16 + x.toNat % 16 + bitNat c > 15) (a.toNat + x.toNat + bitNat c > 255) :=
  AluResult.flags_eq (ofNat_beq_zero _) rfl rfl rfl

theorem bitNat_le_one (b : Bool) : bitNat b ≤ 1 := by cases b <;> decide

/-- R253, R254: the difference of the exact values, made non-negative by a multiple of 256 before it is narrowed. -/
theorem subBytes_res {m : Nat} (hm : m % 256 = 0) (hle : 256 ≤ m) (a x : Byte) (c : Bool) :
    (subBytes a x c).res = BitVec.ofNat 8 (a.toNat + m - x.toNat - bitNat c) := by
  have hx := x.isLt
  have hc := bitNat_le_one c
  apply BitVec.eq_of_toNat_eq
  rw [subBytes, BitVec.toNat_ofInt, BitVec.toNat_ofNat]
  omega

theorem subBytes_flags {m : Nat} (hm : m % 256 = 0) (hle : 256 ≤ m) (a x : Byte) (c : Bool) :
    (subBytes a x c).flags = flagByte ((a.toNat + m - x.toNat - bitNat c) % 256 = 0) True
      (a.toNat % 16 < x.toNat % 16 + bitNat c) (a.toNat < x.toNat + bitNat c) := by
  refine AluResult.flags_eq ?_ rfl rfl rfl
  rw [← ofNat_beq_zero, ← subBytes_res hm hle]
  rfl

/-- R258: without a borrow in, the difference is 0 just when the operands are equal. -/
theorem subBytes_flags_compare (a x : Byte) :
    (subBytes a x false).flags = flagByte (a.toNat = x.toNat) True (a.toNat % 16 < x.toNat % 16) (a.toNat < x.toNat) := by
  have ha := a.isLt
  have hx := x.isLt
  refine AluResult.flags_eq ?_ rfl rfl rfl
  show ((subBytes a x false).res == 0) = _
  rw [subBytes_res (m := 256) rfl (by decide), ofNat_beq_zero, decide_eq_decide]
  show (a.toNat + 256 - x.toNat) % 256 = 0 ↔ _
  omega

/-- R255 to R257. -/
theorem logicBytes_flags (r : Byte) (h : Bool) :
    (logicBytes r h).flags = BitVec.ofNat 8 ((if r = 0 then 0x80 else 0) + (if h then 0x20 else 0)) :=
  AluResult.flags_eq (n := False) (c := False) (beq_eq_decide r 0) rfl Bool.decide_eq_true.symm rfl

/-- Settles O10: ADD to CP by the exact sums and differences, AND, XOR and OR by the library's lemmas on bits. -/
theorem accumulatorOperations : Obligations.AccumulatorOperations := by
  refine ⟨fun s x => ?_, fun s op x hop => ⟨fun k _ => ?_, ?_, ?_⟩⟩
  · dsimp only
    refine ⟨State.alu_of_result (by decide) rfl (addBytes_flags _ _ false),
      State.alu_of_result (by decide) rfl (addBytes_flags _ _ s.flagC),
      State.alu_of_result (by decide) (subBytes_res (m := 256) rfl (by decide) _ _ false)
        (subBytes_flags (m := 256) rfl (by decide) _ _ false),
      State.alu_of_result (by decide) (subBytes_res (m := 512) rfl (by decide) _ _ s.flagC)
        (subBytes_flags (m := 512) rfl (by decide) _ _ s.flagC), ?_⟩
    rw [State.alu_eq, if_pos rfl, BitVec.ofNat_toNat, BitVec.setWidth_eq, aluResult, subBytes_flags_compare]
    rfl
  · rw [State.alu_eq]
    obtain rfl | rfl | rfl := hop
    · exact BitVec.getLsbD_and ..
    · exact BitVec.getLsbD_xor ..
    · exact BitVec.getLsbD_or ..
  · rw [State.alu_eq]
    obtain rfl | rfl | rfl := hop
    all_goals exact logicBytes_flags _ _
  · rw [State.alu_eq]

/-! ### Increment and decrement -/

theorem incResult_flags (v : Byte) (c : Bool) :
    (incResult v c).flags = BitVec.ofNat 8
      ((if v = 0xFF then 0x80 else 0) + (if v.toNat % 16 = 15 then 0x20 else 0) + (if c then 0x10 else 0)) := by
  have hz : (incResult v c).z = decide (v = 0xFF) := by
    show (v + 1 == 0) = _
    rw [beq_eq_decide, decide_eq_decide]
    constructor
    all_goals intro h; bv_omega
  exact AluResult.flags_eq (n := False) hz rfl rfl Bool.decide_eq_true.symm

theorem decResult_flags (v : Byte) (c : Bool) :
    (decResult v c).flags = BitVec.ofNat 8
      ((if v = 0x01 then 0x80 else 0) + 0x40 + (if v.toNat % 16 = 0 then 0x20 else 0) + (if c then 0x10 else 0)) := by
  have hz : (decResult v c).z = decide (v = 0x01) := by
    show (v - 1 == 0) = _
    rw [beq_eq_decide, decide_eq_decide]
    constructor
    all_goals intro h; bv_omega
  exact AluResult.flags_eq (n := True) hz rfl rfl Bool.decide_eq_true.symm

/-- Z, N and C kept, H as given (R259 to R262). -/
theorem packFlags_keep_znc (f : Byte) (h : Bool) :
    packFlags (f.getLsbD 7) (f.getLsbD 6) h (f.getLsbD 4) = (f &&& 0xD0) ||| (if h then 0x20 else 0x00) := by
  revert f h
  decide

/-- A write to the Bus does not see F, nor change it. -/
theorem busWrite16_setF (a : Word) (v f : Byte) (s : State) :
    busWrite16 a v (s.setF f) = (busWrite16 a v s).map fun t => t.setF f := by
  have hkept : (busWrite16 a v s).state.cpu = s.cpu := (busWrite_kept a.toNat v s).cpu
  have hmap : busWrite16 a v (s.setF f) = (busWrite16 a v s).map (State.withCpu (s.setF f).cpu) :=
    busWrite_withCpu a.toNat v s (s.setF f).cpu
  rw [hmap]
  cases hr : busWrite16 a v s
  all_goals
    rw [hr] at hkept
    simp only [Res.map, State.withCpu, State.setF, ← hkept]
    rfl

/-- R259, R261. -/
theorem stepR8_of_ne_mHL {y : R8} (hy : y ≠ .mHL) (f : Byte → Bool → AluResult) (s : State) :
    stepR8 f y s = .ok () ((s.setReg y (f (s.reg y) s.flagC).res).setF (f (s.reg y) s.flagC).flags) := by
  rw [stepR8, readR8_of_ne_mHL hy, Res.bind_ok]
  dsimp only
  rw [writeR8_of_ne_mHL hy, Res.bind_ok]
  cases y
  all_goals rfl

/-- R260, R262: after its read, INC or DEC of (HL) writes H, then the result, then the other flags. -/
theorem stepR8_mHL_of_read {s t : State} {v : Byte} (h : busRead16 s.hl s = .ok v t) (f : Byte → Bool → AluResult) :
    stepR8 f .mHL s =
      ((busWrite16 s.hl (f v s.flagC).res t).map fun u =>
        u.setF ((s.cpu.f &&& 0xD0) ||| (if (f v s.flagC).h then 0x20 else 0x00))).bind
      fun _ u => .ok () (u.setF (f v s.flagC).flags) := by
  have hcpu := busRead16_ok_cpu h
  rw [← busWrite16_setF, ← packFlags_keep_znc, stepR8, readR8, h, Res.bind_ok]
  simp only [State.hl, State.flagC, ← hcpu]
  rfl

theorem stepR8_mHL_of_fatal_read {s t : State} (h : busRead16 s.hl s = .fatal t) (f : Byte → Bool → AluResult) :
    stepR8 f .mHL s = .fatal t := by
  rw [stepR8, readR8, h, Res.bind_fatal]

theorem stepR8_mHL_of_ok {s t u : State} {v : Byte} {f : Byte → Bool → AluResult} (hread : busRead16 s.hl s = .ok v t)
    (hwrite : busWrite16 s.hl (f v s.flagC).res t = .ok () u) : stepR8 f .mHL s = .ok () (u.setF (f v s.flagC).flags) := by
  rw [stepR8_mHL_of_read hread, hwrite]
  rfl

/-- R350: a fatal write comes after H, and before Z and N. -/
theorem stepR8_mHL_of_fatal_write {s t u : State} {v : Byte} {f : Byte → Bool → AluResult}
    (hread : busRead16 s.hl s = .ok v t) (hwrite : busWrite16 s.hl (f v s.flagC).res t = .fatal u) :
    stepR8 f .mHL s = .fatal (u.setF ((s.cpu.f &&& 0xD0) ||| (if (f v s.flagC).h then 0x20 else 0x00))) := by
  rw [stepR8_mHL_of_read hread, hwrite]
  rfl

/-- R260. -/
theorem exec_inc_mHL (s : State) : exec .inc_mHL s = finish 3 (stepR8 incResult .mHL s) := rfl

/-- R262. -/
theorem exec_dec_mHL (s : State) : exec .dec_mHL s = finish 3 (stepR8 decResult .mHL s) := rfl

/-- Settles O11: the rows, then a register by `stepR8_of_ne_mHL`, (HL) by how its read and its write end. -/
theorem incrementDecrementByte : Obligations.IncrementDecrementByte := by
  refine ⟨fun y rest => ⟨decode_inc8 y.toFin rest, decode_dec8 y.toFin rest⟩, fun s => ?_⟩
  dsimp only
  refine ⟨fun y hy => ?_, fun v t u hread => ?_, fun t h => ?_⟩
  · rw [exec_mkInc8, exec_mkDec8, if_neg hy, stepR8_of_ne_mHL hy, stepR8_of_ne_mHL hy, incResult_flags, decResult_flags]
    exact ⟨rfl, rfl⟩
  · rw [← State.flagC, ← incResult_flags, ← decResult_flags, exec_inc_mHL, exec_dec_mHL]
    refine ⟨fun h => finish_of_ok (stepR8_mHL_of_ok hread h), fun h => finish_of_fatal ?_,
      fun h => finish_of_ok (stepR8_mHL_of_ok hread h), fun h => finish_of_fatal ?_⟩
    · rw [stepR8_mHL_of_fatal_write hread h]
      simp [incResult, lowNibble]
    · rw [stepR8_mHL_of_fatal_write hread h]
      simp [decResult, lowNibble]
  · exact ⟨finish_of_fatal (c := 3) (stepR8_mHL_of_fatal_read h incResult),
      finish_of_fatal (c := 3) (stepR8_mHL_of_fatal_read h decResult)⟩

/-! ### DAA, CPL, SCF and CCF -/

/-- R263: 6 to adjust the low digit and 0x60 the high one; after a subtraction A is not tested. -/
def daaAdjustment (a : Nat) (n h c : Bool) : Nat :=
  (if h = true ∨ (n = false ∧ a % 16 > 9) then 0x06 else 0) + (if c = true ∨ (n = false ∧ a > 0x99) then 0x60 else 0)

/-- R263: the adjusted value of A. -/
def daaValue (a : Nat) (n h c : Bool) : Nat :=
  if n then (a + 256 - daaAdjustment a n h c) % 256 else (a + daaAdjustment a n h c) % 256

theorem daaAdjustment_le (a : Nat) (n h c : Bool) : daaAdjustment a n h c ≤ 0x66 := by
  unfold daaAdjustment
  split <;> split <;> omega

/-- R263: the adjustment as a byte, each digit's part by its own test. -/
theorem ofNat_daaAdjustment (a : Nat) (n h c : Bool) :
    BitVec.ofNat 8 (daaAdjustment a n h c) =
      (if h = true ∨ (n = false ∧ a % 16 > 9) then 0x06 else 0x00) |||
        (if c = true ∨ (n = false ∧ a > 0x99) then 0x60 else 0x00) := by
  unfold daaAdjustment
  split <;> split <;> rfl

theorem daaResult_res (a : Byte) (n h c : Bool) : (daaResult a n h c).res = BitVec.ofNat 8 (daaValue a.toNat n h c) := by
  have hle := daaAdjustment_le a.toNat n h c
  have ha := a.isLt
  have hres : (daaResult a n h c).res =
      if n then a - BitVec.ofNat 8 (daaAdjustment a.toNat n h c) else a + BitVec.ofNat 8 (daaAdjustment a.toNat n h c) := by
    rw [ofNat_daaAdjustment]
    cases n <;> simp [daaResult, lowNibble]
  rw [hres, daaValue]
  apply BitVec.eq_of_toNat_eq
  split
  · rw [BitVec.toNat_sub, BitVec.toNat_ofNat, BitVec.toNat_ofNat]
    omega
  · rw [BitVec.toNat_add, BitVec.toNat_ofNat, BitVec.toNat_ofNat]
    omega

theorem daaResult_flags (a : Byte) (n h c : Bool) :
    (daaResult a n h c).flags = BitVec.ofNat 8 ((if daaValue a.toNat n h c = 0 then 0x80 else 0) + (if n then 0x40 else 0) +
      (if c = true ∨ (n = false ∧ a.toNat > 0x99) then 0x10 else 0)) := by
  have hlt : daaValue a.toNat n h c < 256 := by
    unfold daaValue
    split <;> omega
  have hz : (daaResult a n h c).z = decide (daaValue a.toNat n h c = 0) := by
    show ((daaResult a n h c).res == 0) = _
    rw [daaResult_res, ofNat_beq_zero, Nat.mod_eq_of_lt hlt]
  have hc : (daaResult a n h c).c = decide (c = true ∨ (n = false ∧ a.toNat > 0x99)) := by
    cases n <;> simp [daaResult]
  exact AluResult.flags_eq (h := False) hz Bool.decide_eq_true.symm rfl hc

/-- Z and C kept, N and H set (R264). -/
theorem packFlags_keep_zc (f : Byte) :
    packFlags (f.getLsbD 7) true true (f.getLsbD 4) = (f &&& 0x90) ||| 0x60 := by
  revert f
  decide

/-- Z kept, N and H cleared, C as given (R265, R266). -/
theorem packFlags_keep_z (f : Byte) (c : Bool) :
    packFlags (f.getLsbD 7) false false c = (f &&& 0x80) ||| (if c then 0x10 else 0x00) := by
  revert f c
  decide

theorem not_eq_ofNat (a : Byte) : ~~~a = BitVec.ofNat 8 (255 - a.toNat) := by
  apply BitVec.eq_of_toNat_eq
  rw [BitVec.toNat_not, BitVec.toNat_ofNat]
  omega

theorem finish_one_setFlags (s : State) (z n h c : Bool) :
    finish 1 (.ok () (s.setFlags z n h c)) =
      .next { s with cpu := { s.cpu with f := packFlags z n h c, pendingCycles := 0 } } := by
  rw [State.setFlags_eq]
  rfl

/-- R263. -/
theorem exec_daa (s : State) :
    exec .daa s = .next { s with cpu := { s.cpu with
      a := (daaResult s.cpu.a s.flagN s.flagH s.flagC).res
      f := (daaResult s.cpu.a s.flagN s.flagH s.flagC).flags
      pendingCycles := 0 } } := finish_one_setFlags (s.setA _) _ _ _ _

/-- R264. -/
theorem exec_cpl (s : State) :
    exec .cpl s = .next { s with cpu := { s.cpu with
      a := ~~~s.cpu.a, f := packFlags s.flagZ true true s.flagC, pendingCycles := 0 } } :=
  finish_one_setFlags (s.setA _) _ _ _ _

/-- R265. -/
theorem exec_scf (s : State) :
    exec .scf s = .next { s with cpu := { s.cpu with f := packFlags s.flagZ false false true, pendingCycles := 0 } } :=
  finish_one_setFlags s _ _ _ _

/-- R266. -/
theorem exec_ccf (s : State) :
    exec .ccf s = .next { s with cpu := { s.cpu with f := packFlags s.flagZ false false !s.flagC, pendingCycles := 0 } } :=
  finish_one_setFlags s _ _ _ _

/-- Settles O12: DAA by `daaResult_res` and `daaResult_flags`, the others by the flags each keeps. -/
theorem accumulatorAdjustments : Obligations.AccumulatorAdjustments := by
  refine ⟨⟨decode_one rfl (by decide), fun s => ?_⟩,
    fun rest => ⟨decode_one rfl (by decide) rest, decode_one rfl (by decide) rest, decode_one rfl (by decide) rest⟩,
    fun s => ⟨?_, ?_, ?_⟩⟩
  · rw [exec_daa, daaResult_res, daaResult_flags]
    rfl
  · rw [exec_cpl, State.flagZ, State.flagC, packFlags_keep_zc, not_eq_ofNat]
  · rw [exec_scf, State.flagZ, packFlags_keep_z]
    rfl
  · rw [exec_ccf, State.flagZ, packFlags_keep_z, State.flagC]
    cases s.cpu.f.getLsbD 4
    all_goals rfl

end Sys2Proof.Machine

/-! PROOFS. ADD HL,rr (`spec/44_alu16.md`): its row of the opcode table for each pair, then the sum and its carries as whole
numbers. -/

namespace Sys2Proof.Machine

theorem decode_addHl (p : Fin 4) (rest : List Byte) :
    decode (pairByte 0 p 9 :: rest) = .ok (mkAddHl (.ofField p), rest) :=
  decode_pairByte (i := fun p => mkAddHl (.ofField p)) (by decide) (by decide) p rest

/-- A carry out of bit 15 does not reach the high byte of the sum. -/
theorem hi8_add (x y : Word) : hi8 (x + y) = BitVec.ofNat 8 ((x.toNat + y.toNat) / 256) := by
  apply BitVec.eq_of_toNat_eq
  rw [hi8_toNat, BitVec.toNat_add, BitVec.toNat_ofNat]
  omega

theorem lo8_add (x y : Word) : lo8 (x + y) = BitVec.ofNat 8 (x.toNat + y.toNat) := by
  apply BitVec.eq_of_toNat_eq
  rw [lo8_toNat, BitVec.toNat_add, BitVec.toNat_ofNat]
  omega

/-- Z kept, N cleared, H and C as given (R280). -/
theorem packFlags_keep_z_clear_n (f : Byte) (h c : Bool) :
    packFlags (f.getLsbD 7) false h c = (f &&& 0x80) ||| (if h then 0x20 else 0x00) ||| (if c then 0x10 else 0x00) := by
  revert f h c
  decide

/-- R280: only H, L and F change. -/
theorem addHl_eq (p : R16) (s : State) :
    addHl p s = { s with cpu := { s.cpu with
      h := hi8 (s.hl + s.pair p)
      l := lo8 (s.hl + s.pair p)
      f := packFlags s.flagZ false (addWords s.hl (s.pair p)).2.1 (addWords s.hl (s.pair p)).2.2 } } :=
  State.setFlags_eq _ _ _ _ _

/-- R280, with HL and the pair given as whole numbers. -/
theorem exec_mkAddHl_of_toNat {s : State} {p : R16} {hl x : Nat} (hhl : s.hl.toNat = hl) (hx : (s.pair p).toNat = x) :
    exec (mkAddHl p) s = .next { s with cpu := { s.cpu with
      h := BitVec.ofNat 8 ((hl + x) / 256)
      l := BitVec.ofNat 8 (hl + x)
      f := (s.cpu.f &&& 0x80) ||| (if hl % 4096 + x % 4096 > 4095 then 0x20 else 0x00) |||
        (if hl + x > 65535 then 0x10 else 0x00)
      pendingCycles := 1 } } := by
  subst hhl hx
  rw [exec_mkAddHl, addHl_eq, hi8_add, lo8_add, State.flagZ, packFlags_keep_z_clear_n]
  simp only [addWords, decide_eq_true_eq]
  rfl

/-- Settles O13: the row, then for each pair the numbers that HL and the pair are. -/
theorem addPairToHl : Obligations.AddPairToHl := by
  refine ⟨fun p rest => decode_addHl p.toFin rest, fun s p => ?_⟩
  have hhl : s.hl.toNat = s.cpu.h.toNat * 256 + s.cpu.l.toNat := word16_toNat _ _
  cases p with
  | bc | de | hl => exact exec_mkAddHl_of_toNat hhl (word16_toNat _ _)
  | sp => exact exec_mkAddHl_of_toNat hhl rfl

end Sys2Proof.Machine

/-! PROOFS. Rotates, shifts and single bits (`spec/45_rotate_shift_bit.md`): the rows of the alternate table, how an instruction
that writes its operand back ends, then each operation as whole numbers. -/

namespace Sys2Proof.Machine

/-! ### The rows of the alternate table -/

theorem decode_alternateTable (y z : Fin 8) (rest : List Byte) :
    decode (prefixByte :: opcodeByte 0 y z :: rest) = .ok (mkShift (.ofField y) (.ofField z), rest) ∧
    decode (prefixByte :: opcodeByte 1 y z :: rest) = .ok (mkBit y (.ofField z), rest) ∧
    decode (prefixByte :: opcodeByte 2 y z :: rest) = .ok (mkRes y (.ofField z), rest) ∧
    decode (prefixByte :: opcodeByte 3 y z :: rest) = .ok (mkSet y (.ofField z), rest) := by
  simp only [decode_prefixed, decodePrefixed, fields_opcodeByte, and_self]

/-! ### An operand that is read and written back -/

/-- Reads `r8[z]`, writes `f` of the byte back and goes on with `g` of the byte: what RES, SET and the rotates and shifts do
(R295 to R302, R304, R305). -/
def rewriteR8 (f : Byte → Byte) (g : Byte → State → State) (z : R8) (s : State) : Res Unit :=
  (readR8 z s).bind fun v t => (writeR8 z (f v) t).bind fun _ u => .ok () (g v u)

theorem Res.bind_ok_unit (r : Res Unit) : (r.bind fun _ u => .ok () u) = r := by
  cases r
  all_goals rfl

section Rewrite

variable {f : Byte → Byte} {g : Byte → State → State} {s t u : State} {v : Byte} {z : R8}

theorem rewriteR8_of_ne_mHL (hz : z ≠ .mHL) : rewriteR8 f g z s = .ok () (g (s.reg z) (s.setReg z (f (s.reg z)))) := by
  rw [rewriteR8, readR8_of_ne_mHL hz, Res.bind_ok, writeR8_of_ne_mHL hz, Res.bind_ok]

/-- The write goes to the address that was read: a read keeps HL. -/
theorem rewriteR8_mHL_of_read (h : busRead16 s.hl s = .ok v t) :
    rewriteR8 f g .mHL s = (busWrite16 s.hl (f v) t).bind fun _ u => .ok () (g v u) := by
  rw [rewriteR8, readR8, h, Res.bind_ok, writeR8, State.hl, busRead16_ok_cpu h]
  rfl

theorem rewriteR8_mHL_of_ok (hread : busRead16 s.hl s = .ok v t) (hwrite : busWrite16 s.hl (f v) t = .ok () u) :
    rewriteR8 f g .mHL s = .ok () (g v u) := by
  rw [rewriteR8_mHL_of_read hread, hwrite, Res.bind_ok]

theorem rewriteR8_mHL_of_fatal_write (hread : busRead16 s.hl s = .ok v t) (hwrite : busWrite16 s.hl (f v) t = .fatal u) :
    rewriteR8 f g .mHL s = .fatal u := by
  rw [rewriteR8_mHL_of_read hread, hwrite, Res.bind_fatal]

theorem rewriteR8_mHL_of_fatal_read (h : busRead16 s.hl s = .fatal t) : rewriteR8 f g .mHL s = .fatal t := by
  rw [rewriteR8, readR8, h, Res.bind_fatal]

end Rewrite

/-! ### Bits as whole numbers -/

theorem bitNat_eq_toNat (b : Bool) : bitNat b = b.toNat := by
  cases b
  all_goals rfl

/-- Bit `k` of a byte is the digit of its value at weight `2 ^ k`. -/
theorem bitNat_getLsbD (v : Byte) (k : Nat) : bitNat (v.getLsbD k) = v.toNat / 2 ^ k % 2 := by
  rw [bitNat_eq_toNat, ← BitVec.testBit_toNat, Nat.toNat_testBit]

theorem toNat_append_eq_add {m n : Nat} (x : BitVec m) (y : BitVec n) : (x ++ y).toNat = x.toNat * 2 ^ n + y.toNat := by
  rw [BitVec.toNat_append, ← Nat.shiftLeft_add_eq_or_of_lt y.isLt, Nat.shiftLeft_eq]

/-- A byte moved one place to the left, the bit `b` coming in. -/
theorem shiftedLeft_eq_ofNat (v : Byte) (b : Bool) :
    v.extractLsb' 0 7 ++ BitVec.ofBool b = BitVec.ofNat 8 (2 * v.toNat + bitNat b) := by
  have hb := bitNat_le_one b
  apply BitVec.eq_of_toNat_eq
  rw [toNat_append_eq_add, BitVec.extractLsb'_toNat, Nat.shiftRight_zero, BitVec.toNat_ofBool, ← bitNat_eq_toNat,
    BitVec.toNat_ofNat]
  omega

/-- A byte moved one place to the right, the bit `b` coming in. -/
theorem shiftedRight_eq_ofNat (v : Byte) (b : Bool) :
    BitVec.ofBool b ++ v.extractLsb' 1 7 = BitVec.ofNat 8 (v.toNat / 2 + 128 * bitNat b) := by
  have hb := bitNat_le_one b
  have hv := v.isLt
  apply BitVec.eq_of_toNat_eq
  rw [toNat_append_eq_add, BitVec.extractLsb'_toNat, Nat.shiftRight_eq_div_pow, BitVec.toNat_ofBool, ← bitNat_eq_toNat,
    BitVec.toNat_ofNat]
  omega

theorem swapped_eq_ofNat (v : Byte) :
    v.extractLsb' 0 4 ++ v.extractLsb' 4 4 = BitVec.ofNat 8 (16 * v.toNat + v.toNat / 16) := by
  have hv := v.isLt
  apply BitVec.eq_of_toNat_eq
  rw [toNat_append_eq_add, BitVec.extractLsb'_toNat, BitVec.extractLsb'_toNat, Nat.shiftRight_zero,
    Nat.shiftRight_eq_div_pow, Nat.mod_eq_of_lt (a := v.toNat / 2 ^ 4) (by omega), BitVec.toNat_ofNat]
  omega

/-! ### The rotates and shifts -/

/-- R295 to R302: the result before it is narrowed to a byte, for the operand `v` and the carry `cin`. -/
def shiftValue (op : ShiftOp) (v cin : Nat) : Nat :=
  match op with
  | .rlc => 2 * v + v / 128
  | .rrc => v / 2 + 128 * (v % 2)
  | .rl => 2 * v + cin
  | .rr => v / 2 + 128 * cin
  | .sla => 2 * v
  | .sra => v / 2 + 128 * (v / 128)
  | .swap => 16 * v + v / 16
  | .srl => v / 2

/-- R295 to R302: the bit shifted out. -/
def shiftCarry (op : ShiftOp) (v : Nat) : Nat :=
  match op with
  | .rlc | .rl | .sla => v / 128
  | .swap => 0
  | .rrc | .rr | .sra | .srl => v % 2

theorem bitNat_bit7 (v : Byte) : bitNat (v.getLsbD 7) = v.toNat / 128 := by
  have hv := v.isLt
  rw [bitNat_getLsbD]
  omega

theorem bitNat_bit0 (v : Byte) : bitNat (v.getLsbD 0) = v.toNat % 2 := by
  rw [bitNat_getLsbD, Nat.pow_zero, Nat.div_one]

theorem shiftResult_fst (op : ShiftOp) (v : Byte) (cin : Bool) :
    (shiftResult op v cin).1 = BitVec.ofNat 8 (shiftValue op v.toNat (bitNat cin)) := by
  cases op with
  | rlc => rw [shiftResult, shiftedLeft_eq_ofNat, bitNat_bit7, shiftValue]
  | rl => exact shiftedLeft_eq_ofNat v cin
  | sla => exact shiftedLeft_eq_ofNat v false
  | rrc => rw [shiftResult, shiftedRight_eq_ofNat, bitNat_bit0, shiftValue]
  | rr => exact shiftedRight_eq_ofNat v cin
  | sra => rw [shiftResult, shiftedRight_eq_ofNat, bitNat_bit7, shiftValue]
  | srl => exact shiftedRight_eq_ofNat v false
  | swap => exact swapped_eq_ofNat v

theorem shiftResult_snd (op : ShiftOp) (v : Byte) (cin : Bool) :
    bitNat (shiftResult op v cin).2 = shiftCarry op v.toNat := by
  cases op with
  | rlc | rl | sla => exact bitNat_bit7 v
  | rrc | rr | sra | srl => exact bitNat_bit0 v
  | swap => rfl

/-- N and H cleared, Z and C as given (R290 to R302). -/
theorem packFlags_zc (z c : Bool) :
    packFlags z false false c = BitVec.ofNat 8 ((if z then 0x80 else 0) + 16 * bitNat c) := by
  revert z c
  decide

/-- R295 to R302: F from the result and the bit shifted out. -/
def shiftFlags (op : ShiftOp) (v cin : Nat) : Byte :=
  BitVec.ofNat 8 ((if shiftValue op v cin % 256 = 0 then 0x80 else 0) + 16 * shiftCarry op v)

theorem packFlags_shiftResult (op : ShiftOp) (v : Byte) (cin : Bool) :
    packFlags ((shiftResult op v cin).1 == 0) false false (shiftResult op v cin).2 =
      shiftFlags op v.toNat (bitNat cin) := by
  rw [packFlags_zc, shiftResult_snd, shiftResult_fst, ofNat_beq_zero]
  simp only [decide_eq_true_eq]
  rfl

/-- R295 to R302: the operand is written back, then F; the carry that comes in is the one before the read. -/
theorem shiftR8_eq (op : ShiftOp) (z : R8) (s : State) :
    shiftR8 op z s = rewriteR8 (fun v => BitVec.ofNat 8 (shiftValue op v.toNat (bitNat s.flagC)))
      (fun v u => u.setF (shiftFlags op v.toNat (bitNat s.flagC))) z s := by
  simp only [shiftR8, rewriteR8, ← packFlags_shiftResult, ← shiftResult_fst]
  by_cases hz : z = .mHL
  · subst hz
    cases h : busRead16 s.hl s with
    | ok v t =>
      rw [readR8, h, Res.bind_ok, Res.bind_ok, State.flagC, busRead16_ok_cpu h]
      rfl
    | fatal t => rw [readR8, h, Res.bind_fatal, Res.bind_fatal]
  · rw [readR8_of_ne_mHL hz, Res.bind_ok, Res.bind_ok]
    rfl

/-- R290 to R293: a rotate of A clears Z. -/
theorem finish_rotateA (op : ShiftOp) (s : State) :
    finish 1 (.ok () (rotateA op s)) = .next { s with cpu := { s.cpu with
      a := BitVec.ofNat 8 (shiftValue op s.cpu.a.toNat (bitNat s.flagC))
      f := BitVec.ofNat 8 (16 * shiftCarry op s.cpu.a.toNat)
      pendingCycles := 0 } } := by
  have hf : packFlags false false false (shiftResult op s.cpu.a s.flagC).2 =
      BitVec.ofNat 8 (16 * shiftCarry op s.cpu.a.toNat) := by
    rw [packFlags_zc, shiftResult_snd, if_neg Bool.false_ne_true, Nat.zero_add]
  rw [rotateA, ← hf, ← shiftResult_fst]
  exact finish_one_setFlags (s.setA _) _ _ _ _

/-- Settles O14: the rotates of A by `finish_rotateA`, the alternate table's by how the read and the write of the operand
end. -/
theorem rotatesAndShifts : Obligations.RotatesAndShifts := by
  refine ⟨⟨fun rest => ⟨decode_one rfl (by decide) rest, decode_one rfl (by decide) rest, decode_one rfl (by decide) rest,
      decode_one rfl (by decide) rest⟩,
    fun s => ⟨finish_rotateA .rlc s, finish_rotateA .rrc s, finish_rotateA .rl s, finish_rotateA .rr s⟩⟩,
    fun y z rest => ?_, fun op s => ⟨fun z hz => ?_, fun v t u hread => ?_, fun t h => ?_⟩⟩
  · obtain ⟨hshift, -⟩ := decode_alternateTable y.toFin z.toFin rest
    exact hshift
  · rw [exec_mkShift, if_neg hz, shiftR8_eq]
    exact finish_of_ok (rewriteR8_of_ne_mHL hz)
  · rw [exec_mkShift, if_pos rfl, shiftR8_eq]
    exact ⟨fun h => finish_of_ok (rewriteR8_mHL_of_ok hread h),
      fun h => finish_of_fatal (rewriteR8_mHL_of_fatal_write hread h)⟩
  · rw [exec_mkShift, shiftR8_eq]
    exact finish_of_fatal (rewriteR8_mHL_of_fatal_read h)

/-! ### BIT, RES and SET -/

/-- R303: Z is the complement of the bit, N cleared, H set, C kept. -/
theorem packFlags_bit (f : Byte) (z : Bool) :
    packFlags z false true (f.getLsbD 4) = (if z then 0x80 else 0x00) ||| 0x20 ||| (f &&& 0x10) := by
  revert f z
  decide

theorem not_getLsbD (v : Byte) (b : Nat) : (!v.getLsbD b) = decide (v.toNat / 2 ^ b % 2 = 0) := by
  rw [← bitNat_getLsbD]
  cases v.getLsbD b
  all_goals rfl

/-- R303: F after BIT. -/
def bitFlags (b : Nat) (f v : Byte) : Byte :=
  (if v.toNat / 2 ^ b % 2 = 0 then 0x80 else 0x00) ||| 0x20 ||| (f &&& 0x10)

theorem setFlags_bit (b : Nat) (v : Byte) (s t : State) (hcpu : t.cpu = s.cpu) :
    t.setFlags (!v.getLsbD b) false true t.flagC = t.setF (bitFlags b s.cpu.f v) := by
  rw [State.setFlags, State.flagC, packFlags_bit, not_getLsbD, hcpu]
  simp only [decide_eq_true_eq]
  rfl

theorem bitR8_of_ne_mHL {z : R8} (hz : z ≠ .mHL) (b : Nat) (s : State) :
    bitR8 b z s = .ok () (s.setF (bitFlags b s.cpu.f (s.reg z))) := by
  rw [bitR8, readR8_of_ne_mHL hz, Res.bind_ok, setFlags_bit b _ s s rfl]

theorem bitR8_mHL_of_ok {s t : State} {v : Byte} (h : busRead16 s.hl s = .ok v t) (b : Nat) :
    bitR8 b .mHL s = .ok () (t.setF (bitFlags b s.cpu.f v)) := by
  rw [bitR8, readR8, h, Res.bind_ok, setFlags_bit b v s t (busRead16_ok_cpu h)]

theorem bitR8_mHL_of_fatal {s t : State} (h : busRead16 s.hl s = .fatal t) (b : Nat) : bitR8 b .mHL s = .fatal t := by
  rw [bitR8, readR8, h, Res.bind_fatal]

/-- Bit `k` of a byte alone, at its weight. -/
theorem and_twoPow_eq_ofNat (v : Byte) (k : Nat) :
    v &&& BitVec.twoPow 8 k = BitVec.ofNat 8 (2 ^ k * bitNat (v.getLsbD k)) := by
  rw [BitVec.and_twoPow]
  apply BitVec.eq_of_toNat_eq
  cases v.getLsbD k with
  | false => rfl
  | true => exact (BitVec.toNat_twoPow 8 k).trans (by rw [BitVec.toNat_ofNat, bitNat, if_pos rfl, Nat.mul_one])

theorem clearBit_eq_and_not_twoPow (v : Byte) (k : Nat) : clearBit v k = v &&& ~~~BitVec.twoPow 8 k := rfl

theorem setBit_eq_or_twoPow (v : Byte) (k : Nat) : setBit v k = v ||| BitVec.twoPow 8 k := rfl

/-- R304: to clear a bit is to subtract it at its weight. -/
theorem clearBit_eq_ofNat (v : Byte) (k : Nat) :
    clearBit v k = BitVec.ofNat 8 (v.toNat - 2 ^ k * (v.toNat / 2 ^ k % 2)) := by
  have hdisjoint : clearBit v k &&& (v &&& BitVec.twoPow 8 k) = 0#8 := by
    ext i hi
    simp only [clearBit_eq_and_not_twoPow, BitVec.getElem_and, BitVec.getElem_not, BitVec.getElem_zero]
    cases (BitVec.twoPow 8 k)[i]
    all_goals simp
  have hunion : clearBit v k ||| (v &&& BitVec.twoPow 8 k) = v := by
    rw [clearBit_eq_and_not_twoPow, ← BitVec.and_or_distrib_left, BitVec.or_comm, BitVec.or_not_self, BitVec.and_allOnes]
  have hsum : clearBit v k + (v &&& BitVec.twoPow 8 k) = v := (BitVec.add_eq_or_of_and_eq_zero _ _ hdisjoint).trans hunion
  have hle : 2 ^ k * (v.toNat / 2 ^ k % 2) ≤ v.toNat :=
    (Nat.mul_le_mul_left _ (Nat.mod_le _ _)).trans (Nat.mul_div_le _ _)
  rw [eq_sub_of_add_eq hsum, and_twoPow_eq_ofNat, bitNat_getLsbD,
    ← BitVec.ofNat_sub_ofNat_of_le _ _ (hle.trans_lt v.isLt) hle, BitVec.ofNat_toNat, BitVec.setWidth_eq]

/-- R305: to set a bit is to add its weight where it is 0. -/
theorem setBit_eq_ofNat (v : Byte) (k : Fin 8) :
    setBit v k = BitVec.ofNat 8 (v.toNat + 2 ^ k.val * (1 - v.toNat / 2 ^ k.val % 2)) := by
  have hdisjoint : v &&& (~~~v &&& BitVec.twoPow 8 k) = 0#8 := by
    rw [← BitVec.and_assoc, BitVec.and_not_self]
    exact BitVec.zero_and
  have hunion : v ||| (~~~v &&& BitVec.twoPow 8 k) = setBit v k := by
    ext i hi
    simp only [setBit_eq_or_twoPow, BitVec.getElem_or, BitVec.getElem_and, BitVec.getElem_not]
    cases v[i]
    all_goals simp
  have hbit : bitNat ((~~~v).getLsbD k) = 1 - v.toNat / 2 ^ k.val % 2 := by
    rw [BitVec.getLsbD_not, ← bitNat_getLsbD, decide_eq_true k.isLt, Bool.true_and]
    cases v.getLsbD k
    all_goals rfl
  rw [← hunion, ← BitVec.add_eq_or_of_and_eq_zero _ _ hdisjoint, and_twoPow_eq_ofNat, hbit, BitVec.ofNat_add,
    BitVec.ofNat_toNat, BitVec.setWidth_eq]

/-- R304: only the operand is written. -/
theorem resR8_eq (b : Nat) (z : R8) (s : State) :
    resR8 b z s = rewriteR8 (fun v => BitVec.ofNat 8 (v.toNat - 2 ^ b * (v.toNat / 2 ^ b % 2))) (fun _ u => u) z s := by
  simp only [resR8, rewriteR8, Res.bind_ok_unit, clearBit_eq_ofNat]

/-- R305: only the operand is written. -/
theorem setR8_eq (b : Fin 8) (z : R8) (s : State) :
    setR8 b z s = rewriteR8 (fun v => BitVec.ofNat 8 (v.toNat + 2 ^ b.val * (1 - v.toNat / 2 ^ b.val % 2)))
      (fun _ u => u) z s := by
  simp only [setR8, rewriteR8, Res.bind_ok_unit, setBit_eq_ofNat]

/-- Settles O15: BIT by how its read ends, RES and SET by how the read and the write of the operand end. -/
theorem bitInstructions : Obligations.BitInstructions := by
  refine ⟨⟨fun y z rest => ?_, fun b s => ⟨fun z hz => ?_, fun v t h => ?_, fun t h => ?_⟩⟩,
    fun y z rest => ?_, fun b s => ⟨fun z hz => ?_, fun v t u hread => ?_, fun t h => ?_⟩⟩
  · obtain ⟨-, hbit, -⟩ := decode_alternateTable y.toFin z.toFin rest
    exact hbit
  · rw [exec_mkBit, if_neg hz]
    exact finish_of_ok (bitR8_of_ne_mHL hz b s)
  · rw [exec_mkBit, if_pos rfl]
    exact finish_of_ok (bitR8_mHL_of_ok h b)
  · rw [exec_mkBit]
    exact finish_of_fatal (bitR8_mHL_of_fatal h b)
  · obtain ⟨-, -, hresSet⟩ := decode_alternateTable y.toFin z.toFin rest
    exact hresSet
  · rw [exec_mkRes, exec_mkSet, if_neg hz, resR8_eq, setR8_eq]
    exact ⟨finish_of_ok (rewriteR8_of_ne_mHL hz), finish_of_ok (rewriteR8_of_ne_mHL hz)⟩
  · rw [exec_mkRes, exec_mkSet, if_pos rfl, resR8_eq, setR8_eq]
    exact ⟨fun h => finish_of_ok (rewriteR8_mHL_of_ok hread h),
      fun h => finish_of_fatal (rewriteR8_mHL_of_fatal_write hread h),
      fun h => finish_of_ok (rewriteR8_mHL_of_ok hread h),
      fun h => finish_of_fatal (rewriteR8_mHL_of_fatal_write hread h)⟩
  · rw [exec_mkRes, exec_mkSet, resR8_eq, setR8_eq]
    exact ⟨finish_of_fatal (rewriteR8_mHL_of_fatal_read h), finish_of_fatal (rewriteR8_mHL_of_fatal_read h)⟩

end Sys2Proof.Machine

/-! PROOFS. Control flow (`spec/46_control_flow.md`): the rows of the opcode table, then jumps by the condition, calls and returns
by the condition and by how their access to the stack ends. -/

namespace Sys2Proof.Machine

/-! ### The rows of the opcode table -/

/-- The byte with `op[7:5]`, the field cc and the field z: the rows of the conditional instructions (R149, R156). -/
def condByte (top : Fin 8) (cc : Fin 4) (z : Fin 8) : Byte :=
  BitVec.ofFin (w := 3) top ++ BitVec.ofFin (w := 2) cc ++ BitVec.ofFin (w := 3) z

/-- A row with a sixteen-bit operand, low byte first, for each condition. -/
theorem decode_condByte_word {top z : Fin 8} {i : Fin 4 → Word → Instr}
    (hop : ∀ cc, opLength (condByte top cc z) = 3 ∧ condByte top cc z ≠ prefixByte)
    (hrow : ∀ cc lo hi, decodePrimary (condByte top cc z) lo hi = i cc (word16 hi lo)) (cc : Fin 4) (lo hi : Byte)
    (rest : List Byte) : decode (condByte top cc z :: lo :: hi :: rest) = .ok (i cc (word16 hi lo), rest) := by
  obtain ⟨hlen, hprefix⟩ := hop cc
  rw [decode_three hlen hprefix, hrow]

theorem decode_jpCc (cc : Fin 4) (lo hi : Byte) (rest : List Byte) :
    decode (condByte 6 cc 2 :: lo :: hi :: rest) = .ok (mkJpCc (.ofField cc) (word16 hi lo), rest) := by
  refine decode_condByte_word (i := fun cc => mkJpCc (.ofField cc)) (by decide) (fun cc lo hi => ?_) cc lo hi rest
  match cc with
  | 0 | 1 | 2 | 3 => rfl

theorem decode_callCc (cc : Fin 4) (lo hi : Byte) (rest : List Byte) :
    decode (condByte 6 cc 4 :: lo :: hi :: rest) = .ok (mkCallCc (.ofField cc) (word16 hi lo), rest) := by
  refine decode_condByte_word (i := fun cc => mkCallCc (.ofField cc)) (by decide) (fun cc lo hi => ?_) cc lo hi rest
  match cc with
  | 0 | 1 | 2 | 3 => rfl

theorem decode_jrCc (cc : Fin 4) (e : Byte) (rest : List Byte) :
    decode (condByte 1 cc 0 :: e :: rest) = .ok (mkJrCc (.ofField cc) e, rest) := by
  have hlen : opLength (condByte 1 cc 0) = 2 := by revert cc; decide
  have hprefix : condByte 1 cc 0 ≠ prefixByte := by revert cc; decide
  have hrow : decodePrimary (condByte 1 cc 0) e 0 = mkJrCc (.ofField cc) e := by
    match cc with
    | 0 | 1 | 2 | 3 => rfl
  rw [decode_two hlen hprefix, hrow]

theorem decode_retCc (cc : Fin 4) (rest : List Byte) :
    decode (condByte 6 cc 0 :: rest) = .ok (mkRetCc (.ofField cc), rest) := by
  have hlen : opLength (condByte 6 cc 0) = 1 := by revert cc; decide
  have hprefix : condByte 6 cc 0 ≠ prefixByte := by revert cc; decide
  have hrow : decodePrimary (condByte 6 cc 0) 0 0 = mkRetCc (.ofField cc) := by revert cc; decide
  rw [decode_one hlen hprefix, hrow]

theorem decode_rst (y : Fin 8) (rest : List Byte) : decode (opcodeByte 3 y 7 :: rest) = .ok (mkRst y, rest) :=
  decode_opcodeByte (by decide) (by decide) y rest

/-! ### The condition -/

/-- R320: a conditional instruction ends as `taken` does when the condition holds; else only the other cost is charged. -/
theorem finishWith_whenCond (cc : Cond) (m n : Nat) (taken : State → Res Unit) (s : State) :
    finishWith (whenCond cc m n taken s) = if s.cond cc then finish m (taken s) else .next (s.setPending (n - 1)) := by
  rw [whenCond]
  split
  · cases taken s
    all_goals rfl
  · rfl

/-! ### Jumps -/

/-- R324: the displacement counts from the PC past the operand, as an integer. -/
theorem jumpRelative_eq_ofInt (e : Byte) (s : State) :
    jumpRelative e s = s.setPc (BitVec.ofInt 16 (s.cpu.pc.toNat + e.toInt)) := by
  rw [jumpRelative, add_sext8]

/-- R324. -/
theorem exec_jr_e8 (e : Byte) (s : State) : exec (.jr_e8 e) s = .next ((jumpRelative e s).setPending 2) := rfl

/-- R322. -/
theorem exec_mkJpCc_eq (cc : Cond) (a : Word) (s : State) :
    exec (mkJpCc cc a) s = .next (if s.cond cc then (s.setPc a).setPending 3 else s.setPending 2) := by
  rw [exec_mkJpCc, finishWith_whenCond, apply_ite Host.Outcome.next]
  rfl

/-- R325. -/
theorem exec_mkJrCc_eq (cc : Cond) (e : Byte) (s : State) :
    exec (mkJrCc cc e) s = .next (if s.cond cc then (jumpRelative e s).setPending 2 else s.setPending 1) := by
  rw [exec_mkJrCc, finishWith_whenCond, apply_ite Host.Outcome.next]
  rfl

/-- Settles O17: the rows, then each jump by its condition, the relative target by `jumpRelative_eq_ofInt`. -/
theorem jumpsSetPc : Obligations.JumpsSetPc := by
  refine ⟨fun cc lo hi e rest => ?_, fun cc a e s => ?_⟩
  · exact ⟨decode_three rfl (by decide) lo hi rest, decode_jpCc cc.toFin lo hi rest, decode_one rfl (by decide) rest,
      decode_two rfl (by decide) e rest, decode_jrCc cc.toFin e rest⟩
  · intro holds target
    have hcond : s.cond cc = holds := by
      cases cc
      all_goals rfl
    rw [exec_jr_e8, exec_mkJpCc_eq, exec_mkJrCc_eq, jumpRelative_eq_ofInt, hcond]
    exact ⟨rfl, rfl, rfl, rfl, rfl⟩

/-! ### Calls and returns -/

section Stack

variable {s t : State} {a v : Word}

theorem callTo_of_ok (h : push16 s.cpu.pc s = .ok () t) : callTo a s = .ok () (t.setPc a) := by
  rw [callTo, h, Res.bind_ok]

theorem callTo_of_fatal (h : push16 s.cpu.pc s = .fatal t) : callTo a s = .fatal t := by
  rw [callTo, h, Res.bind_fatal]

theorem ret_of_ok (h : pop16 s = .ok v t) : ret s = .ok () (t.setPc v) := by
  rw [ret, h, Res.bind_ok]

theorem ret_of_fatal (h : pop16 s = .fatal t) : ret s = .fatal t := by
  rw [ret, h, Res.bind_fatal]

theorem returnFromInterrupt_of_ok (h : pop16 s = .ok v t) :
    returnFromInterrupt s = .ok () ((t.setPc v).setIme true) := by
  rw [returnFromInterrupt, h, Res.bind_ok]

theorem returnFromInterrupt_of_fatal (h : pop16 s = .fatal t) : returnFromInterrupt s = .fatal t := by
  rw [returnFromInterrupt, h, Res.bind_fatal]

end Stack

/-- R326. -/
theorem exec_call_a16 (a : Word) (s : State) : exec (.call_a16 a) s = finish 6 (callTo a s) := rfl

/-- R328. -/
theorem exec_ret (s : State) : exec .ret s = finish 4 (ret s) := rfl

/-- R330. -/
theorem exec_reti_eq_finish (s : State) : exec .reti s = finish 4 (returnFromInterrupt s) := rfl

/-- R327. -/
theorem exec_mkCallCc_eq (cc : Cond) (a : Word) (s : State) :
    exec (mkCallCc cc a) s = if s.cond cc then finish 6 (callTo a s) else .next (s.setPending 2) := by
  rw [exec_mkCallCc, finishWith_whenCond]

/-- R329. -/
theorem exec_mkRetCc_eq (cc : Cond) (s : State) :
    exec (mkRetCc cc) s = if s.cond cc then finish 5 (ret s) else .next (s.setPending 1) := by
  rw [exec_mkRetCc, finishWith_whenCond]

/-- Settles O18: the rows, then calls by how the push ends and returns by how the pop does, a conditional one after its
condition. -/
theorem callsAndReturns : Obligations.CallsAndReturns := by
  refine ⟨⟨fun cc y lo hi rest => ?_, fun cc k a s t => ?_⟩, fun cc rest => ?_, fun cc v s t => ?_⟩
  · exact ⟨decode_three rfl (by decide) lo hi rest, decode_callCc cc.toFin lo hi rest, decode_rst y.toFin rest⟩
  · intro holds
    have hcond : s.cond cc = holds := by
      cases cc
      all_goals rfl
    rw [exec_call_a16, exec_mkRst, exec_mkCallCc_eq, hcond]
    exact ⟨fun hnot => if_neg (Bool.eq_false_iff.mp hnot),
      fun h => ⟨finish_of_ok (callTo_of_ok h), finish_of_ok (callTo_of_ok h),
        fun hc => (if_pos hc).trans (finish_of_ok (callTo_of_ok h))⟩,
      fun h => ⟨finish_of_fatal (callTo_of_fatal h), finish_of_fatal (callTo_of_fatal h),
        fun hc => (if_pos hc).trans (finish_of_fatal (callTo_of_fatal h))⟩⟩
  · exact ⟨decode_one rfl (by decide) rest, decode_one rfl (by decide) rest, decode_retCc cc.toFin rest⟩
  · intro holds
    have hcond : s.cond cc = holds := by
      cases cc
      all_goals rfl
    rw [exec_ret, exec_reti_eq_finish, exec_mkRetCc_eq, hcond]
    exact ⟨fun hnot => if_neg (Bool.eq_false_iff.mp hnot),
      fun h => ⟨finish_of_ok (ret_of_ok h), finish_of_ok (returnFromInterrupt_of_ok h),
        fun hc => (if_pos hc).trans (finish_of_ok (ret_of_ok h))⟩,
      fun h => ⟨finish_of_fatal (ret_of_fatal h), finish_of_fatal (returnFromInterrupt_of_fatal h),
        fun hc => (if_pos hc).trans (finish_of_fatal (ret_of_fatal h))⟩⟩

end Sys2Proof.Machine

/-! PROOFS. NOP, STOP, DI, EI and HALT; one Timer step; raising, dispatching and entering an interrupt. -/

namespace Sys2Proof.Machine

/-! ### NOP, STOP, DI, EI, HALT -/

/-- No source is pending and enabled just when the two registers share no bit (R175). -/
theorem dispatchable_eq_zero_iff (s : State) :
    s.dispatchable = 0 ↔ ∀ k, s.ints.enabled.getLsbD k = false ∨ s.ints.pending.getLsbD k = false := by
  unfold State.dispatchable
  refine ⟨fun h k => ?_, fun h => BitVec.eq_of_getLsbD_eq fun k _ => ?_⟩
  · rw [← Bool.and_eq_false_iff, ← BitVec.getLsbD_and, h]
    exact BitVec.getLsbD_zero
  · rw [BitVec.getLsbD_and, Bool.and_eq_false_iff.mpr (h k)]
    exact BitVec.getLsbD_zero.symm

theorem haltCpu_of_halts {s : State} (h : s.cpu.ime = true ∨ s.dispatchable = 0) : haltCpu s = s.setRunState .halted := by
  unfold haltCpu
  by_cases hime : s.cpu.ime = true
  · exact if_pos hime
  · rw [if_neg hime, if_pos (h.resolve_left hime)]

theorem haltCpu_of_bug {s : State} (hime : s.cpu.ime = false) (h : s.dispatchable ≠ 0) : haltCpu s = s.setHaltBug true := by
  unfold haltCpu
  rw [if_neg (by simp [hime]), if_neg h]

/-- Settles O19: the rows by evaluation; HALT by whether a source is pending and enabled. -/
theorem systemInstructions : Obligations.SystemInstructions := by
  refine ⟨⟨fun pad rest => ⟨decode_one rfl (by decide) rest, decode_two rfl (by decide) pad rest,
    decode_one rfl (by decide) rest, decode_one rfl (by decide) rest⟩, fun _ _ => ⟨rfl, rfl, rfl, rfl⟩⟩,
    fun rest => decode_one rfl (by decide) rest, fun s => ?_⟩
  have hexec : exec .halt s = .next ((haltCpu s).setPending 0) := rfl
  rw [hexec, ← dispatchable_eq_zero_iff]
  refine ⟨fun h => by rw [haltCpu_of_halts h], fun hime ⟨k, henabled, hpending⟩ => ?_⟩
  rw [haltCpu_of_bug hime]
  intro hnone
  obtain h | h := (dispatchable_eq_zero_iff s).mp hnone k
  · exact absurd (henabled.symm.trans h) (by decide)
  · exact absurd (hpending.symm.trans h) (by decide)

/-! ### The Timer -/

theorem Timer.timaDue_count_iff (t : Timer) :
    t.count.timaDue = true ↔ t.running = true ∧ (t.counter + 1).toNat % timerPeriod t.rate = 0 := by
  rw [Timer.timaDue, Bool.and_eq_true_iff, beq_iff_eq]
  rfl

theorem timerStep_of_not_due {s : State} (h : ¬s.timer.count.timaDue = true) : timerStep s = s.setTimer s.timer.count :=
  if_neg h

theorem timerStep_of_due {s : State} (h : s.timer.count.timaDue = true) (ht : s.timer.tima ≠ 0xFF) :
    timerStep s = s.setTimer { s.timer.count with tima := s.timer.tima + 1 } :=
  (if_pos h).trans (if_neg ht)

theorem timerStep_of_overflow {s : State} (h : s.timer.count.timaDue = true) (ht : s.timer.tima = 0xFF) :
    timerStep s = (s.setTimer { s.timer.count with tima := s.timer.tma }).raiseInterrupt .timer :=
  (if_pos h).trans (if_pos ht)

/-- Settles O36: the counter and the divider in every step; `tima` by whether an increment is due and whether it overflows. -/
theorem timerStepCounts : Obligations.TimerStepCounts := by
  intro s n period due
  obtain ⟨hcounter, -, -, -, hdiv⟩ := s.timer.step_fields
  have hn : (s.timer.counter + 1).toNat = n := by simp [n]
  have hdue : s.timer.count.timaDue = true ↔ due := by
    rw [Timer.timaDue_count_iff, hn, timerPeriod_eq]
  rw [hn] at hdiv
  refine ⟨by rw [timerStep_timer, hcounter, hn], ?_, fun h => ?_, fun h ht => ?_, fun h ht => ?_, ?_⟩
  · rw [timerStep_timer, hdiv]
    split
    · simp
    · rfl
  · rw [timerStep_of_not_due (mt hdue.mp h)]
    exact ⟨rfl, rfl⟩
  · have hlt : s.timer.tima.toNat ≠ 255 := fun h => ht (BitVec.eq_of_toNat_eq h)
    rw [timerStep_of_due (hdue.mpr h) ht]
    refine ⟨?_, rfl⟩
    show (s.timer.tima + 1).toNat = _
    bv_omega
  · rw [timerStep_of_overflow (hdue.mpr h) ht]
    exact ⟨rfl, rfl⟩
  · by_cases h : s.timer.count.timaDue = true
    · by_cases ht : s.timer.tima = 0xFF
      · rw [timerStep_of_overflow h ht]
        rfl
      · rw [timerStep_of_due h ht]
        rfl
    · rw [timerStep_of_not_due h]
      rfl

/-! ### Raising an interrupt; the joypad -/

/-- The bit of a mask of one bit. -/
theorem getLsbD_one_shiftLeft {w i : Nat} (hi : i < w) (j : Nat) :
    ((1 : BitVec w) <<< i).getLsbD j = decide (j = i) := by
  show (BitVec.twoPow w i).getLsbD j = _
  rw [BitVec.getLsbD_twoPow]
  by_cases h : j = i
  · simp [h, hi]
  · simp [h, Ne.symm h]

theorem IntSource.index_lt (k : IntSource) : k.index < 5 := by cases k <;> decide

theorem IntSource.getLsbD_mask (k : IntSource) (j : Nat) : k.mask.getLsbD j = decide (j = k.index) :=
  getLsbD_one_shiftLeft k.index_lt j

theorem hostPress_of_held {k : Fin 8} {s : State} (h : s.buttons.getLsbD k.val = true) : hostPress k s = s := if_pos h

theorem hostPress_of_free {k : Fin 8} {s : State} (h : s.buttons.getLsbD k.val = false) :
    hostPress k s = (s.setButtons (s.buttons ||| ((1 : BitVec 8) <<< k.val))).raiseInterrupt .joypad :=
  if_neg (by rw [h]; decide)

/-- Settles O38: each register bit by bit; raising twice sets the same bit. -/
theorem raiseAndPress : Obligations.RaiseAndPress := by
  refine ⟨fun k s => ?_, fun k s => ⟨hostPress_of_held, fun h => ?_, fun j => ?_, rfl⟩⟩
  · intro i
    have hi : k.index = i := by cases k <;> rfl
    refine ⟨fun j => ?_, rfl, ?_⟩
    · show (s.ints.pending ||| k.mask).getLsbD j = _
      rw [BitVec.getLsbD_or, k.getLsbD_mask, hi, Bool.or_comm]
    · have htwice : s.ints.pending ||| k.mask ||| k.mask = s.ints.pending ||| k.mask := by
        rw [BitVec.or_assoc, BitVec.or_self]
      exact congrArg s.setIF htwice
  · rw [hostPress_of_free h]
    refine ⟨fun j => ?_, rfl⟩
    show (s.buttons ||| ((1 : BitVec 8) <<< k.val)).getLsbD j = _
    rw [BitVec.getLsbD_or, getLsbD_one_shiftLeft k.isLt, Bool.or_comm]
  · show (s.buttons &&& ~~~((1 : BitVec 8) <<< k.val)).getLsbD j = _
    rw [BitVec.getLsbD_and, BitVec.getLsbD_not, getLsbD_one_shiftLeft k.isLt]
    by_cases hj : j < 8
    · simp [hj, Bool.and_comm]
    · simp [BitVec.getLsbD_of_ge _ _ (Nat.le_of_not_lt hj)]

/-! ### The dispatcher -/

/-- The sources by priority: `k` comes first among those with a property if no source before it has it (R360). -/
theorem find_sources {p : IntSource → Bool} {k : IntSource} (hk : p k = true) (h : ∀ j, j.index < k.index → p j = false) :
    [IntSource.vblank, .lcdStatus, .timer, .serial, .joypad].find? p = some k := by
  cases k <;> simp (disch := decide) [List.find?, hk, h]

theorem getLsbD_dispatchable (s : State) (k : Nat) :
    s.dispatchable.getLsbD k = true ↔ s.ints.enabled.getLsbD k = true ∧ s.ints.pending.getLsbD k = true := by
  rw [State.dispatchable, BitVec.getLsbD_and, Bool.and_eq_true_iff]

theorem interruptDispatch_of_no_source {s : State} (h : ∀ k : IntSource, s.dispatchable.getLsbD k.index = false) :
    interruptDispatch s = .ok 0 s := by
  have hnone : s.firstDispatchable = none := List.find?_eq_none.mpr fun k _ => by simp [h k]
  unfold interruptDispatch
  rw [hnone]
  split <;> rfl

theorem interruptDispatch_of_first {s : State} {k : IntSource} (hime : s.cpu.ime = true) (h : s.firstDispatchable = some k) :
    interruptDispatch s = takeInterrupt k s := by
  unfold interruptDispatch
  rw [if_pos hime, h]

/-- The state a dispatch pushes PC from: the IF bit of the source and IME are cleared (R361). -/
def acknowledge (k : IntSource) (s : State) : State := (s.setIF (s.ints.pending &&& ~~~k.mask)).setIme false

theorem takeInterrupt_of_fatal {k : IntSource} {s t : State} (h : push16 s.cpu.pc (acknowledge k s) = .fatal t) :
    takeInterrupt k s = .fatal t :=
  Res.bind_eq_fatal.mpr (.inl h)

theorem push16_kept {v : Word} {s t : State} (h : push16 v s = .ok () t) :
    t.cpu.runState = s.cpu.runState ∧ t.params = s.params := by
  have hreach := (from_push16 v s).reach
  rw [h] at hreach
  exact ⟨hreach.ctl.runState, hreach.partsKept.fixed.params⟩

theorem setRunState_self {s : State} {r : RunState} (h : s.cpu.runState = r) : s.setRunState r = s := by
  subst h
  rfl

/-- After the push PC takes the vector and the CPU runs, at 6 cycles out of HALTED and 5 else (R361, R362). -/
theorem takeInterrupt_of_ok {k : IntSource} {s t : State} (hreset : s.cpu.runState ≠ .reset)
    (h : push16 s.cpu.pc (acknowledge k s) = .ok () t) :
    takeInterrupt k s =
      .ok (if s.cpu.runState = .halted then 6 else 5) ((t.setPc (k.vector s.params.vectors)).setRunState .running) := by
  obtain ⟨hrun, hparams⟩ := push16_kept h
  replace hrun : t.cpu.runState = s.cpu.runState := hrun
  replace hparams : t.params = s.params := hparams
  change (push16 s.cpu.pc (acknowledge k s)).bind _ = _
  rw [h, Res.bind_ok]
  dsimp only [State.setPc_cpu_runState]
  rw [hrun, hparams]
  cases hs : s.cpu.runState with
  | halted => rfl
  | stopped => rfl
  | running =>
    have hself : (t.setPc (k.vector s.params.vectors)).setRunState .running = t.setPc (k.vector s.params.vectors) :=
      setRunState_self (hrun.trans hs)
    rw [hself]
    rfl
  | reset => exact absurd hs hreset

/-- Settles O39: nothing to take by the masks; else the source found first, by how the push ends. -/
theorem dispatchTakesLowestSource : Obligations.DispatchTakesLowestSource := by
  intro s k index on vector ack
  have hvector : vector = k.vector s.params.vectors := by cases k <;> rfl
  have hack : ack = acknowledge k s := rfl
  have hon (j : IntSource) : s.dispatchable.getLsbD j.index = true ↔ on j := getLsbD_dispatchable s j.index
  rw [hvector, hack]
  refine ⟨fun h => ?_, fun hime hk hbefore hreset t => ?_⟩
  · obtain hime | hnone := h
    · exact interruptDispatch_of_not_ime hime
    · exact interruptDispatch_of_no_source fun j => Bool.eq_false_iff.mpr (mt (hon j).mp (hnone j))
  · have hfirst : s.firstDispatchable = some k :=
      find_sources ((hon k).mpr hk) fun j hj => Bool.eq_false_iff.mpr (mt (hon j).mp (hbefore j hj))
    rw [interruptDispatch_of_first hime hfirst]
    exact ⟨takeInterrupt_of_ok hreset, takeInterrupt_of_fatal⟩

/-! ### The state at handler entry -/

/-- A push onto two cells changes memory and SP, and nothing else (R238). -/
theorem push16_isMemory_frame {v : Word} {s t : State} (hwf : Memory.wf s.mem)
    (hhigh : s.isMemory (s.cpu.sp - 1).toNat) (hlow : s.isMemory (s.cpu.sp - 2).toNat) (h : push16 v s = .ok () t) :
    t = (s.setSp (s.cpu.sp - 2)).setMem t.mem := by
  obtain ⟨⟨⟩, u, hu, -⟩ := Res.bind_eq_ok.mp h
  replace hu : busWrite16 (s.cpu.sp - 1) (hi8 v) (s.setSp (s.cpu.sp - 1)) = .ok () u := hu
  rw [push16_of_ok hu] at h
  obtain ⟨hu_mem, -⟩ := busWrite_isMemory (s := s.setSp (s.cpu.sp - 1)) hwf hhigh hu
  have hu_wf : Memory.wf (busWrite (s.cpu.sp - 1).toNat (hi8 v) (s.setSp (s.cpu.sp - 1))).state.mem := busWrite_wf _ _ hwf
  rw [show busWrite _ _ _ = _ from hu] at hu_wf
  have hu_low : (u.setSp (s.cpu.sp - 2)).isMemory (s.cpu.sp - 2).toNat := by
    rw [hu_mem]
    exact hlow
  obtain ⟨ht_mem, -⟩ := busWrite_isMemory (s := u.setSp (s.cpu.sp - 2)) hu_wf hu_low h
  rw [ht_mem, hu_mem]
  rfl

/-- Clearing the bit of a pending source: the bit is 0 after, and setting it gives the sources of before (R361). -/
theorem IntSource.clear_mask {k : IntSource} {p : BitVec 5} (h : p.getLsbD k.index = true) :
    p = (p &&& ~~~k.mask) ||| k.mask ∧ p &&& ~~~k.mask &&& k.mask = 0 := by
  refine ⟨BitVec.eq_of_getLsbD_eq fun j hj => ?_, by rw [BitVec.and_assoc]; simp⟩
  rw [BitVec.getLsbD_or, BitVec.getLsbD_and, BitVec.getLsbD_not, k.getLsbD_mask]
  by_cases hk : j = k.index
  · simp [hk, h]
  · simp [hk, hj]

/-- A dispatch that is charged took the first source pending and enabled, with IME set (R360). -/
theorem interruptDispatch_cases {s t : State} {n : Nat} (h : interruptDispatch s = .ok n t) (hn : 0 < n) :
    ∃ k, s.dispatchable.getLsbD k.index = true ∧ takeInterrupt k s = .ok n t := by
  unfold interruptDispatch at h
  split at h
  · split at h
    · next k hk => exact ⟨k, List.find?_some (p := fun k : IntSource => s.dispatchable.getLsbD k.index) hk, h⟩
    · cases h; exact absurd hn (Nat.lt_irrefl 0)
  · cases h; exact absurd hn (Nat.lt_irrefl 0)

/-- Settles O40: the push is onto two cells, so it changes memory and SP only; PC, IME and `cpu_state` come after it. -/
theorem handlerEntryState : Obligations.HandlerEntryState := by
  intro s t n hwf hbanks hhigh hlow hreset h hn
  obtain ⟨k, hk, htake⟩ := interruptDispatch_cases h hn
  obtain ⟨⟨⟩, u, hpush, -⟩ := Res.bind_eq_ok.mp htake
  replace hpush : push16 s.cpu.pc (acknowledge k s) = .ok () u := hpush
  rw [takeInterrupt_of_ok hreset hpush] at htake
  obtain ⟨hlo, hhi, hsp⟩ := push16_isMemory (s := acknowledge k s) hwf hbanks.wramBank hhigh hlow hpush
  have hframe := push16_isMemory_frame (s := acknowledge k s) hwf hhigh hlow hpush
  obtain ⟨hset, hclear⟩ := IntSource.clear_mask ((getLsbD_dispatchable s k.index).mp hk).2
  cases htake
  replace hsp : u.cpu.sp = s.cpu.sp - 2 := hsp
  have hnext : s.cpu.sp - 2 + 1 = s.cpu.sp - 1 := by bv_omega
  have hpeek (a : Nat) : ((u.setPc (k.vector s.params.vectors)).setRunState .running).peek a = u.peek a := peek_withCpu u _ a
  have hcpu : u.cpu = { s.cpu with sp := s.cpu.sp - 2, ime := false } := by rw [hframe]; rfl
  have hints : u.ints = { s.ints with pending := s.ints.pending &&& ~~~k.mask } := by rw [hframe]; rfl
  rw [hpeek, hpeek, ← lo8_eq_ofNat, ← hi8_eq_ofNat]
  dsimp only [State.setRunState_cpu_sp, State.setPc_cpu_sp, State.setRunState_ints, State.setPc_ints]
  rw [hsp, hnext, hints]
  refine ⟨hlo, hhi, ?_, rfl, k, rfl, hset, hclear⟩
  show ({ u.cpu with pc := _, runState := _ } : Cpu) = _
  rw [hcpu]
  rfl

end Sys2Proof.Machine

/-! PROOFS. The immediate transfer: one step of it by the tick it is at, then the 161 steps as an induction over the bytes. -/

namespace Sys2Proof.Machine

/-! ### One step -/

/-- Where the gated transfer does not take the tick, the immediate one may (R420). -/
theorem transferStep_of_no_hdma {s : State} (h : s.hdma.active = false ∨ s.hdma.stopped = true) :
    transferStep s = if s.oamDma.active then oamStep s else .ok () s :=
  if_neg (by obtain h | h := h <;> simp [h])

theorem transferStep_of_oam {s : State} (h : s.hdma.active = false ∨ s.hdma.stopped = true) (ha : s.oamDma.active = true) :
    transferStep s = oamStep s :=
  (transferStep_of_no_hdma h).trans (if_pos ha)

theorem transferStep_idle {s : State} (h : s.hdma.active = false ∨ s.hdma.stopped = true) (ha : s.oamDma.active = false) :
    transferStep s = .ok () s :=
  (transferStep_of_no_hdma h).trans (if_neg (by simp [ha]))

/-- The first tick moves nothing (R423). -/
theorem oamStep_first {s : State} (h : s.oamDma.ticks = 0) :
    oamStep s = .ok () (s.setOamDma { s.oamDma with ticks := s.oamDma.ticks + 1 }) := by
  simp [oamStep, h]

/-- A read that is fatal ends the step (R350). -/
theorem oamStep_of_fatal {s t : State} (h : 1 ≤ s.oamDma.ticks)
    (hread : busRead (s.oamDma.src.toNat + s.oamDma.copied)
      (s.setOamDma { s.oamDma with ticks := s.oamDma.ticks + 1 }) = .fatal t) : oamStep s = .fatal t := by
  have htwo : s.oamDma.ticks + 1 ≥ 2 := by omega
  simp only [oamStep, oamMoveByte, State.setOamDma_oamDma, htwo, if_true]
  rw [hread, Res.bind_fatal, Res.bind_fatal]

/-- A later tick moves the byte it reads (R423). -/
theorem oamStep_of_ok {s t : State} {b : Byte} (h : 1 ≤ s.oamDma.ticks) (hc : s.oamDma.copied < 160)
    (hread : busRead (s.oamDma.src.toNat + s.oamDma.copied)
      (s.setOamDma { s.oamDma with ticks := s.oamDma.ticks + 1 }) = .ok b t) :
    oamStep s = .ok () ((t.setMem { t.mem with oam := t.mem.oam.write s.oamDma.copied b }).setOamDma
      { s.oamDma with
        ticks := s.oamDma.ticks + 1, copied := s.oamDma.copied + 1
        active := s.oamDma.active && s.oamDma.ticks + 1 != 161 }) := by
  rw [oamStep_eq_move h hc, hread, Res.bind_ok]

/-- Settles O47: by whether the transfer is active, then by the tick and how the read ends. -/
theorem immediateTransferStep : Obligations.ImmediateTransferStep := by
  intro s hgated
  refine ⟨transferStep_idle hgated, fun ha => ?_⟩
  intro s1
  rw [transferStep_of_oam hgated ha]
  refine ⟨oamStep_first, fun h hlt hc b t hread => ?_, fun h hc b t hread => ?_, fun h t => oamStep_of_fatal h⟩
  · have hgoes : (s.oamDma.active && s.oamDma.ticks + 1 != 161) = s.oamDma.active := by
      rw [bne_iff_ne.mpr (by omega), Bool.and_true]
    rw [oamStep_of_ok h hc hread, hgoes]
    rfl
  · have hends : (s.oamDma.active && s.oamDma.ticks + 1 != 161) = false := by simp [h]
    rw [oamStep_of_ok (by omega) hc hread, hends]
    rfl

/-! ### The whole transfer -/

/-- Below OAM an observer sees every byte, if the cartridge and its RAM are there (R76, R78). -/
theorem exists_peek_below_oam {s : State} {a : Nat} (ha : a < 0xFE00) (hcart : s.cartLoaded = true)
    (hram : s.cartRamMapped = true) : ∃ b, s.peek a = some b := by
  have howns := locate_owns s.banks a
  have hecho := unEcho_cases a
  rw [peek_eq_peekRegion]
  cases hr : locate s.banks a with
  | cartRom0 off | cartRomX off => exact ⟨_, if_pos hcart⟩
  | cartRam off => exact ⟨_, if_pos (by simp [hcart, hram])⟩
  | io off | outside =>
    rw [hr] at howns
    simp only [Region.owns] at howns
    omega
  | _ => exact ⟨_, rfl⟩

/-- Nor does OAM or the transfer's own state show there. -/
theorem peek_below_oam {s : State} {a : Nat} (ha : a < 0xFE00) (oam : Bytes) (o : OamTransfer) :
    ((s.setMem { s.mem with oam := oam }).setOamDma o).peek a = s.peek a := by
  have howns := locate_owns s.banks a
  have hecho := unEcho_cases a
  refine peek_congr rfl ?_
  cases hr : locate s.banks a with
  | oam off | io off =>
    rw [hr] at howns
    simp only [Region.owns] at howns
    omega
  | _ => rfl

/-- From `s`, `n` bytes of the page at `base` stand in OAM, and the transfer is at its tick `n + 1`; nothing else differs. -/
structure PageCopied (s : State) (base : Word) (n : Nat) (u : State) : Prop where
  bytes : ∀ i, i < n → some (u.mem.oam.read i) = s.peek (base.toNat + i)
  oamWf : Bytes.wf 160 u.mem.oam
  frame : u = (s.setMem { s.mem with oam := u.mem.oam }).setOamDma
    { active := decide (n < 160), src := base, ticks := n + 1, copied := n }

section Transfer

variable {s u : State} {base : Word} (hgated : s.hdma.active = false ∨ s.hdma.stopped = true)
  (hbase : base.toNat + 160 ≤ 0xFE00) (hcart : s.cartLoaded = true) (hram : s.cartRamMapped = true)
include hgated

/-- After the first tick (R423). -/
theorem PageCopied.first (hwf : Memory.wf s.mem)
    (h : s.oamDma = { active := true, src := base, ticks := 0, copied := 0 }) :
    PageCopied s base 0 (transferStep s).state := by
  obtain ⟨-, -, -, -, -, -, hoam, -, -⟩ := hwf
  rw [transferStep_of_oam hgated (by rw [h]), oamStep_first (by rw [h]), h]
  exact ⟨fun i hi => absurd hi (Nat.not_lt_zero i), hoam, rfl⟩

include hbase hcart hram

/-- A tick that moves the next byte (R423). -/
theorem PageCopied.next {n : Nat} (hn : n < 160) (h : PageCopied s base n u) :
    PageCopied s base (n + 1) (transferStep u).state := by
  obtain ⟨hbytes, hwf, hframe⟩ := h
  have hoam : u.oamDma = { active := true, src := base, ticks := n + 1, copied := n } := by
    rw [hframe]
    simp [hn]
  have hhdma : u.hdma = s.hdma := by rw [hframe]; rfl
  have hbelow : base.toNat + n < 0xFE00 := by omega
  obtain ⟨b, hb⟩ := exists_peek_below_oam hbelow hcart hram
  have hread : busRead (u.oamDma.src.toNat + u.oamDma.copied) (u.setOamDma { u.oamDma with ticks := u.oamDma.ticks + 1 }) =
      .ok b (u.setOamDma { u.oamDma with ticks := u.oamDma.ticks + 1 }) := by
    refine busRead_of_peek ?_
    rw [hoam, hframe]
    exact (peek_below_oam (s := s) hbelow _ _).trans hb
  have hends : (u.oamDma.active && u.oamDma.ticks + 1 != 161) = decide (n + 1 < 160) := by
    rw [hoam, Bool.eq_iff_iff]
    simp only [Bool.true_and, bne_iff_ne, decide_eq_true_eq]
    omega
  rw [transferStep_of_oam (by rw [hhdma]; exact hgated) (by rw [hoam]),
    oamStep_of_ok (by rw [hoam]; exact Nat.le_add_left 1 n) (by rw [hoam]; exact hn) hread, hends, hoam]
  refine ⟨fun i hi => ?_, Bytes.wf_write hwf hn b, ?_⟩
  · show some ((u.mem.oam.write n b).read i) = _
    by_cases hin : i = n
    · rw [hin, Bytes.read_write_same hwf, hb]
    · rw [Bytes.read_write_other hwf hin]
      exact hbytes i (by omega)
  · dsimp only [Res.state]
    rw [hframe]
    rfl

/-- The whole run, from the first tick on. -/
theorem PageCopied.iterate (hwf : Memory.wf s.mem)
    (h : s.oamDma = { active := true, src := base, ticks := 0, copied := 0 }) {n : Nat} (hn : n ≤ 160) :
    PageCopied s base n ((fun u => (transferStep u).state)^[n + 1] s) := by
  induction n with
  | zero => exact .first hgated hwf h
  | succ n ih =>
    rw [Function.iterate_succ_apply']
    exact (ih (by omega)).next hgated hbase hcart hram (by omega)

end Transfer

/-- Settles O48: 161 steps are the first tick and one for each of the 160 bytes. -/
theorem immediateTransferCopiesThePage : Obligations.ImmediateTransferCopiesThePage := by
  intro s page hwf hgated hstart hpage hcart hram after
  have hsrc : (page ++ (0 : Byte)).toNat = page.toNat * 256 :=
    (toNat_append_eq_add page 0).trans (Nat.add_zero _)
  have hcopied {n : Nat} (hn : n ≤ 160) : PageCopied s (page ++ (0 : Byte)) n (after (n + 1)) :=
    .iterate hgated (by omega) hcart hram hwf hstart hn
  clear_value after
  obtain ⟨hbytes, -, hframe⟩ : PageCopied s (page ++ (0 : Byte)) 160 (after 161) := hcopied (Nat.le_refl 160)
  rw [hsrc] at hbytes
  refine ⟨hbytes, fun k hk hk' => ?_, ?_⟩
  · obtain ⟨n, rfl⟩ : ∃ n, k = n + 1 := ⟨k - 1, by omega⟩
    rw [(hcopied (show n ≤ 160 by omega)).frame]
    exact ⟨decide_eq_true (by omega), rfl⟩
  · rw [hstart]
    exact hframe

end Sys2Proof.Machine

/-! PROOFS. The Video unit: entering a mode and setting LY as one update each, a frame cycle by cycle, and the row a line is
rendered to. -/

namespace Sys2Proof.Machine

/-! ### Interrupts of the Video unit -/

/-- A source raised on a condition is the mask of that condition (R357). -/
theorem raiseInterrupt_if (c : Prop) [Decidable c] (s : State) (k : IntSource) :
    (if c then s.raiseInterrupt k else s) = s.setIF (s.ints.pending ||| if c then k.mask else 0) := by
  by_cases h : c
  · rw [if_pos h, if_pos h]
    rfl
  · have hnone : s.ints.pending ||| 0 = s.ints.pending := BitVec.or_zero
    rw [if_neg h, if_neg h, hnone]
    rfl

/-- Entering `m` raises source 0 (R454). -/
def entersVblank (m : VideoMode) (s : State) : Bool := s.video.lcdc.lcdOn && decide (m = .vblank)

/-- Entering `m` raises source 1 (R454). -/
def entersEnabled (m : VideoMode) (s : State) : Bool :=
  s.video.lcdc.lcdOn && decide (m ≠ .pixelTransfer) && (s.ioRaw 0x41).getLsbD (3 + m.number)

/-- `EnterMode(m)` as one update (R454). -/
theorem enterMode_eq (m : VideoMode) (s : State) : enterMode m s = (s.setVideo { s.video with mode := m }).setIF
    (s.ints.pending ||| (if entersVblank m s then 0x01 else 0x00) ||| (if entersEnabled m s then 0x02 else 0x00)) := by
  have hraise : enterMode m s = if s.video.lcdc.lcdOn then
      ((s.setVideo { s.video with mode := m }).setIF (s.ints.pending ||| if m = .vblank then 0x01 else 0x00)).setIF
        (s.ints.pending ||| (if m = .vblank then 0x01 else 0x00) |||
          if m ≠ .pixelTransfer ∧ (s.ioRaw 0x41).getLsbD (3 + m.number) = true then 0x02 else 0x00)
      else s.setVideo { s.video with mode := m } := by
    unfold enterMode
    dsimp only
    rw [raiseInterrupt_if, raiseInterrupt_if]
    rfl
  unfold entersVblank entersEnabled
  rw [hraise]
  cases s.video.lcdc.lcdOn
  · simp
    rfl
  · simp
    rfl

/-- What STAT reads modulo 4 is the mode's number (R108, R452). -/
theorem readStat_mod_four (s : State) : (readStat s).toNat % 4 = s.video.mode.number := by
  have hraw : (s.ioRaw 0x41 &&& 0x78).toNat % 2 ^ 2 = 0 := by
    rw [BitVec.toNat_and, Nat.and_mod_two_pow]
    exact Nat.and_zero _
  have hcoincidence : (if s.video.coincidence then 0x04 else 0x00 : Byte).toNat % 2 ^ 2 = 0 := by
    split <;> rfl
  rw [readStat_eq]
  show _ % 2 ^ 2 = _
  rw [BitVec.toNat_or, BitVec.toNat_or, BitVec.toNat_or, Nat.or_mod_two_pow, Nat.or_mod_two_pow, Nat.or_mod_two_pow, hraw,
    hcoincidence]
  cases s.video.mode <;> rfl

/-- A match of LY and LYC raises source 1 (R456). -/
def matchRaises (n : Nat) (s : State) : Bool :=
  s.params.lycIrq && s.video.lcdc.lcdOn && !s.video.coincidence && decide (n = (s.ioRaw 0x45).toNat) && (s.ioRaw 0x41).getLsbD 6

/-- `CompareLYC()` as one update (R456). -/
theorem compareLyc_update (s : State) : compareLyc s =
    (s.setVideo { s.video with coincidence := decide (s.video.line = (s.ioRaw 0x45).toNat) }).setIF
      (s.ints.pending ||| if matchRaises s.video.line s then 0x02 else 0x00) := by
  unfold compareLyc
  exact raiseInterrupt_if _ _ .lcdStatus

/-- `SetLine(n)` as one update (R456). -/
theorem setLine_eq (n : Nat) (s : State) : setLine n s =
    (s.setVideo { s.video with line := n, coincidence := decide (n = (s.ioRaw 0x45).toNat) }).setIF
      (s.ints.pending ||| if matchRaises n s then 0x02 else 0x00) :=
  compareLyc_update (s.setVideo { s.video with line := n })

/-- A write to LYC (R111). -/
theorem writeLyc_eq {s : State} (h : Bytes.wf 128 s.mem.io) (v : Byte) : writeLyc v s =
    ((s.setIoRaw 0x45 v).setVideo { s.video with coincidence := decide (s.video.line = v.toNat) }).setIF
      (s.ints.pending ||| if s.params.lycIrq && s.video.lcdc.lcdOn && !s.video.coincidence && decide (s.video.line = v.toNat) &&
        (s.ioRaw 0x41).getLsbD 6 then 0x02 else 0x00) := by
  have hlyc : (s.setIoRaw 0x45 v).ioRaw 0x45 = v := Bytes.read_write_same h 0x45 v
  have hstat : (s.setIoRaw 0x45 v).ioRaw 0x41 = s.ioRaw 0x41 := ioRaw_setIoRaw_other h (by decide) v
  unfold writeLyc
  rw [compareLyc_update, matchRaises, hlyc, hstat]
  rfl

/-- The end of a line, from its last cycle (R453). -/
theorem videoStep_of_line_end {s : State} (hon : s.video.lcdc.lcdOn = true) (hd : s.video.enableDelay = 0)
    (ht : s.video.lineT = 113) (hl : s.video.line ≠ 153) :
    videoStep s = nextLine (s.setVideo { s.video with lineT := 0 }) := by
  have hmodes : scanModes s = s.setVideo { s.video with lineT := 114 } := by
    unfold scanModes
    rw [ht]
    dsimp only
    rw [if_neg (by simp), if_neg (by simp)]
  have hscan : videoStep s = scanStep s := by
    unfold videoStep
    rw [if_pos hon, if_neg (by omega)]
  rw [hscan, scanStep_eq, hmodes]
  exact (if_pos rfl).trans (if_neg hl)

theorem nextLine_of_before_vblank {s : State} (h : s.video.line = 143) : nextLine s = enterMode .vblank (setLine 144 s) := by
  unfold nextLine
  rw [h]
  exact if_pos (by simp)

/-- Lines 145 to 153 are entered with no mode entry (R453). -/
theorem nextLine_of_vblank {s : State} (h : 144 ≤ s.video.line) : nextLine s = setLine (s.video.line + 1) s := by
  unfold nextLine
  dsimp only [setLine_video]
  rw [if_neg (by simp; omega), if_neg (by simp; omega)]

/-- Settles O51: the two operations as one update each, and the end of a line by which mode, if any, comes next. -/
theorem modeEntryAndLineCompare : Obligations.ModeEntryAndLineCompare := by
  refine ⟨fun m s => ?_, fun v s => ⟨busWrite_io s (off := 0x41) (by decide) v, fun hon hd ht => ⟨fun hl => ?_, fun hl hl' => ?_⟩⟩,
    setLine_eq, fun v s hwf => ?_⟩
  · intro number irq0 irq1
    have hnumber : number = m.number := by cases m <;> rfl
    refine ⟨enterMode_eq m s, readStat (enterMode m s), ?_, ?_⟩
    · exact busRead_io (enterMode m s) (off := 0x41) (by decide)
    · rw [readStat_mod_four, enterMode_video, hnumber]
  · rw [videoStep_of_line_end hon hd ht (by omega)]
    exact nextLine_of_before_vblank hl
  · rw [videoStep_of_line_end hon hd ht (by omega)]
    exact nextLine_of_vblank hl
  · obtain ⟨-, -, -, -, -, -, -, hio, -⟩ := hwf
    exact (busWrite_io s (off := 0x45) (by decide) v).trans (congrArg (Res.ok ()) (writeLyc_eq hio v))

/-! ### A frame -/

/-- The vblank source, after a mode entry (R454). -/
theorem enterMode_vblank_pending (m : VideoMode) (s : State) :
    (enterMode m s).ints.pending.getLsbD 0 = (entersVblank m s || s.ints.pending.getLsbD 0) := by
  rw [enterMode_eq]
  show (s.ints.pending ||| _ ||| _).getLsbD 0 = _
  rw [BitVec.getLsbD_or, BitVec.getLsbD_or]
  cases entersVblank m s <;> cases entersEnabled m s <;> simp

theorem enterMode_vblank_pending_other {m : VideoMode} (hm : m ≠ .vblank) (s : State) :
    (enterMode m s).ints.pending.getLsbD 0 = s.ints.pending.getLsbD 0 := by
  rw [enterMode_vblank_pending, entersVblank, decide_eq_false hm, Bool.and_false, Bool.false_or]

/-- Setting LY does not touch the vblank source (R456). -/
theorem setLine_vblank_pending (n : Nat) (s : State) :
    (setLine n s).ints.pending.getLsbD 0 = s.ints.pending.getLsbD 0 := by
  rw [setLine_eq]
  show (s.ints.pending ||| _).getLsbD 0 = _
  rw [BitVec.getLsbD_or]
  cases matchRaises n s <;> simp

/-- Within a line the vblank source is not raised (R453). -/
theorem scanModes_vblank_pending (s : State) : (scanModes s).ints.pending.getLsbD 0 = s.ints.pending.getLsbD 0 := by
  have hif {c : Prop} [Decidable c] {t u : State} (h : t.ints.pending.getLsbD 0 = u.ints.pending.getLsbD 0) :
      (if c then t else u).ints.pending.getLsbD 0 = u.ints.pending.getLsbD 0 := by
    split
    · exact h
    · rfl
  have hrender (l : Nat) (u : State) : (renderLine l u).ints = u.ints := rfl
  unfold scanModes
  dsimp only
  rw [hif (by rw [enterMode_vblank_pending_other (by decide), hrender]), hif (enterMode_vblank_pending_other (by decide) _),
    State.setVideo_ints]

/-- At the end of a line it is raised just when line 144 is next (R453, R454). -/
theorem lineEnd_vblank_pending (s : State) : (lineEnd s).ints.pending.getLsbD 0 =
    (s.video.lcdc.lcdOn && decide (s.video.line = 143) || s.ints.pending.getLsbD 0) := by
  obtain ⟨u, hu⟩ : ∃ u, u = s.setVideo { s.video with lineT := 0 } := ⟨_, rfl⟩
  have hend : lineEnd s = if u.video.line = 153 then frameEnd u else nextLine u := by
    rw [hu]
    rfl
  have hfield : s.video.lcdc.lcdOn = u.video.lcdc.lcdOn ∧ s.video.line = u.video.line ∧ s.ints = u.ints := by
    rw [hu]
    exact ⟨rfl, rfl, rfl⟩
  obtain ⟨hlcd, hline, hints⟩ := hfield
  rw [hend, hlcd, hline, hints]
  by_cases hlast : u.video.line = 153
  · rw [if_pos hlast, hlast, frameEnd, enterMode_vblank_pending_other (by decide), setLine_vblank_pending]
    simp
  · rw [if_neg hlast]
    by_cases hblank : u.video.line = 143
    · rw [nextLine_of_before_vblank hblank, enterMode_vblank_pending, setLine_vblank_pending, hblank, entersVblank]
      simp
    · by_cases hlate : 144 ≤ u.video.line
      · rw [nextLine_of_vblank hlate, setLine_vblank_pending, decide_eq_false hblank, Bool.and_false, Bool.false_or]
      · have hnext : nextLine u = enterMode .oamSearch (setLine (u.video.line + 1) u) := by
          unfold nextLine
          dsimp only [setLine_video]
          rw [if_neg (by simpa using hblank), if_pos (by simp; omega)]
        rw [hnext, enterMode_vblank_pending_other (by decide), setLine_vblank_pending, decide_eq_false hblank, Bool.and_false,
          Bool.false_or]

/-- What a cycle within a line does to the position on the screen (R453). -/
theorem scanModes_position (s : State) :
    (scanModes s).video.lcdc = s.video.lcdc ∧ (scanModes s).video.enableDelay = s.video.enableDelay ∧
      (scanModes s).video.line = s.video.line ∧ (scanModes s).video.lineT = s.video.lineT + 1 ∧
      (scanModes s).video.frontSel = s.video.frontSel ∧
      (scanModes s).video.mode =
        if s.video.line < 144 ∧ s.video.lineT + 1 = 20 then .pixelTransfer
        else if s.video.line < 144 ∧ s.video.lineT + 1 = 63 then .hblank else s.video.mode := by
  rw [scanModes_video]
  by_cases h20 : s.video.line < 144 ∧ s.video.lineT + 1 = 20
  · simp only [if_pos h20, and_self]
  · by_cases h63 : s.video.line < 144 ∧ s.video.lineT + 1 = 63
    · simp only [if_neg h20, if_pos h63, renderLine_video, Video.setBack_lcdc, Video.setBack_enableDelay, Video.setBack_line,
        Video.setBack_lineT, Video.setBack_frontSel, State.setVideo_video, and_self]
    · simp only [if_neg h20, if_neg h63, and_self]

/-- The mode of the table from one cycle to the next (R453). -/
theorem modeOf_succ (l t : Nat) : modeOf l (t + 1) =
    if l < 144 ∧ t + 1 = 20 then .pixelTransfer else if l < 144 ∧ t + 1 = 63 then .hblank else modeOf l t := by
  unfold modeOf
  grind

/-- The mode of the table from one line to the next (R453). -/
theorem modeOf_next_line (l : Nat) :
    modeOf (l + 1) 0 = if l + 1 = 144 then .vblank else if l + 1 < 144 then .oamSearch else modeOf l 114 := by
  unfold modeOf
  grind

theorem videoStep_of_scanning {s : State} (hon : s.video.lcdc.lcdOn = true) (hd : s.video.enableDelay = 0) :
    videoStep s = scanStep s := by
  unfold videoStep
  rw [if_pos hon, if_neg (by omega)]

/-- The compositor does not look at the cycle (R480). -/
theorem spritePixel_setLineT (s : State) (k l x : Nat) (sprites : List SpriteEntry) :
    spritePixel (s.setVideo { s.video with lineT := k }) l x sprites = spritePixel s l x sprites := by
  have hindex (e : SpriteEntry) : spriteIndex (s.setVideo { s.video with lineT := k }) e l x = spriteIndex s e l x := rfl
  have hcolour (e : SpriteEntry) (i : Nat) : objColour (s.setVideo { s.video with lineT := k }) e i = objColour s e i := rfl
  induction sprites with
  | nil => rfl
  | cons e rest ih =>
    unfold spritePixel
    simp only [hindex, hcolour, ih]

theorem composeLine_setLineT (s : State) (k l : Nat) :
    composeLine (s.setVideo { s.video with lineT := k }) l = composeLine s l := by
  refine List.map_congr_left fun x _ => ?_
  unfold linePixel
  rw [spritePixel_setLineT]
  rfl

/-- In a frame that began with `s`, the Video unit is at cycle `t` of line `l`: the table of R453. -/
structure AtCycle (s : State) (l t : Nat) (u : State) : Prop where
  lcdOn : u.video.lcdc.lcdOn = true
  delay : u.video.enableDelay = 0
  line : u.video.line = l
  lineT : u.video.lineT = t
  frontSel : u.video.frontSel = s.video.frontSel
  mode : u.video.mode = modeOf l t
  vblank : u.ints.pending.getLsbD 0 = (decide (144 ≤ l) || s.ints.pending.getLsbD 0)

section Frame

variable {s u : State} {l t : Nat}

/-- A cycle that is not the last of its line. -/
theorem AtCycle.within (h : AtCycle s l t u) (ht : t < 113) : AtCycle s l (t + 1) (videoStep u) := by
  obtain ⟨hon, hd, hline, hlineT, hsel, hmode, hvblank⟩ := h
  obtain ⟨hlcdc', hd', hline', hlineT', hsel', hmode'⟩ := scanModes_position u
  have hstep : videoStep u = scanModes u := by
    rw [videoStep_of_scanning hon hd, scanStep_eq, if_neg (by omega)]
  rw [hline, hlineT, hmode, ← modeOf_succ] at hmode'
  rw [hstep]
  exact ⟨by rw [hlcdc', hon], hd'.trans hd, hline'.trans hline, by rw [hlineT', hlineT], hsel'.trans hsel, hmode',
    (scanModes_vblank_pending u).trans hvblank⟩

/-- The last cycle of a line before line 153. -/
theorem AtCycle.nextLine (h : AtCycle s l 113 u) (hl : l < 153) : AtCycle s (l + 1) 0 (videoStep u) := by
  obtain ⟨hon, hd, hline, hlineT, hsel, hmode, hvblank⟩ := h
  obtain ⟨hlcdc', hd', hline', hlineT', hsel', hmode'⟩ := scanModes_position u
  have hstep : videoStep u = lineEnd (scanModes u) := by
    rw [videoStep_of_scanning hon hd, scanStep_eq, if_pos (by omega)]
  have hvideo := lineEnd_video (scanModes u)
  rw [hline', hline, if_neg (by omega)] at hvideo
  rw [hline, hlineT, hmode, ← modeOf_succ] at hmode'
  have hpending := lineEnd_vblank_pending (scanModes u)
  rw [scanModes_vblank_pending, hvblank, hlcdc', hon, hline', hline] at hpending
  rw [hstep]
  constructor
  case vblank =>
    rw [hpending, Bool.true_and, ← Bool.or_assoc, ← Bool.decide_or]
    exact congrArg (· || _) (decide_eq_decide.mpr (by omega))
  all_goals rw [hvideo]
  case lcdOn => exact (congrArg Lcdc.lcdOn hlcdc').trans hon
  case delay => exact hd'.trans hd
  case frontSel => exact hsel'.trans hsel
  case mode =>
    rw [modeOf_next_line, ← hmode']

/-- The last cycle of line 153: the buffers swap, and a frame begins. -/
theorem AtCycle.frameEnd (h : AtCycle s 153 113 u) :
    (videoStep u).video.line = 0 ∧ (videoStep u).video.lineT = 0 ∧ (videoStep u).video.mode = .oamSearch ∧
      (videoStep u).video.frontSel = !s.video.frontSel := by
  obtain ⟨hon, hd, hline, hlineT, hsel, -, -⟩ := h
  rw [videoStep_of_scanning hon hd, scanStep_video, if_pos (by omega), if_pos hline, hsel]
  exact ⟨rfl, rfl, rfl, rfl⟩

/-- The whole frame, cycle by cycle. -/
theorem AtCycle.iterate (h : AtCycle s 0 0 s) {n : Nat} (hn : n < 17556) :
    AtCycle s (n / 114) (n % 114) (videoStep^[n] s) := by
  induction n with
  | zero => exact h
  | succ n ih =>
    rw [Function.iterate_succ_apply']
    replace ih := ih (by omega)
    by_cases ht : n % 114 = 113
    · rw [show (n + 1) / 114 = n / 114 + 1 by omega, show (n + 1) % 114 = 0 by omega]
      rw [ht] at ih
      exact ih.nextLine (by omega)
    · rw [show (n + 1) / 114 = n / 114 by omega, show (n + 1) % 114 = n % 114 + 1 by omega]
      exact ih.within (by omega)

/-- A cycle changes the framebuffers as rendering the line does, at the line's cycle 62, and else not at all (R453). -/
theorem AtCycle.frames (h : AtCycle s l t u) :
    (videoStep u).video.fb0 = (if t = 62 ∧ l < 144 then renderLine l u else u).video.fb0 ∧
      (videoStep u).video.fb1 = (if t = 62 ∧ l < 144 then renderLine l u else u).video.fb1 := by
  obtain ⟨hon, hd, hline, hlineT, -, -, -⟩ := h
  have hlate (k : Nat) : (renderLine l (u.setVideo { u.video with lineT := k })).video.fb0 = (renderLine l u).video.fb0 ∧
      (renderLine l (u.setVideo { u.video with lineT := k })).video.fb1 = (renderLine l u).video.fb1 := by
    rw [renderLine_video, renderLine_video, Video.setBack_eq, Video.setBack_eq, composeLine_setLineT]
    exact ⟨rfl, rfl⟩
  rw [videoStep_of_scanning hon hd, scanStep_video, hline, hlineT]
  by_cases hend : t + 1 = 114
  · rw [if_pos hend, if_neg (show ¬(t = 62 ∧ l < 144) by omega)]
    split <;> exact ⟨rfl, rfl⟩
  · rw [if_neg hend]
    by_cases h20 : l < 144 ∧ t + 1 = 20
    · rw [if_pos h20, if_neg (show ¬(t = 62 ∧ l < 144) by omega)]
      exact ⟨rfl, rfl⟩
    · rw [if_neg h20]
      by_cases h63 : l < 144 ∧ t + 1 = 63
      · rw [if_pos h63, if_pos (show t = 62 ∧ l < 144 by omega)]
        exact hlate _
      · rw [if_neg h63, if_neg (show ¬(t = 62 ∧ l < 144) by omega)]
        exact ⟨rfl, rfl⟩

end Frame

/-- Settles O52: the position by the table of R453, cycle by cycle; the framebuffers by the cycle that renders. -/
theorem frameTakes17556Steps : Obligations.FrameTakes17556Steps := by
  intro s hon hd hline hlineT hmode
  have hstart : AtCycle s 0 0 s := ⟨hon, hd, hline, hlineT, rfl, hmode, rfl⟩
  refine ⟨fun n hn => ?_, ?_⟩
  · have hat := hstart.iterate hn
    have hframes := hat.frames
    rw [← Function.iterate_succ_apply' videoStep n s] at hframes
    have hblank : 144 ≤ n / 114 ↔ 16416 ≤ n := by omega
    have hmode := hat.mode
    have hvblank := hat.vblank
    simp only [modeOf, hblank] at hmode hvblank
    exact ⟨hat.line, hat.lineT, hat.frontSel, hmode, hvblank, hframes⟩
  · rw [Function.iterate_succ_apply']
    exact (hstart.iterate (n := 17555) (by decide)).frameEnd

end Sys2Proof.Machine

/-! PROOFS. The compositor: the row a line is rendered to, the selection of sprites, which of background and sprite shows, and
where tile and colour bytes come from. -/

namespace Sys2Proof.Machine

/-! ### A line -/

theorem Frame.row_setRow_same {p : Params} {f : Frame} (hf : Frame.wf p f) {y : Nat} (hy : y < p.screenH) (row : List Rgb) :
    (f.setRow p y row).row p y = row := by
  obtain ⟨⟨hsorted, -⟩, -⟩ := hf
  unfold Frame.setRow
  rw [if_pos hy]
  exact Cells.read_write_same hsorted y row

theorem Frame.row_setRow_other {p : Params} {f : Frame} (hf : Frame.wf p f) {y y' : Nat} (hy : y' ≠ y) (row : List Rgb) :
    (f.setRow p y row).row p y' = f.row p y' := by
  obtain ⟨⟨hsorted, -⟩, -⟩ := hf
  unfold Frame.setRow
  split
  · exact Cells.read_write_other hsorted hy row
  · rfl

theorem composeLine_getD (s : State) (l : Nat) {x : Nat} (hx : x < s.params.screenW) (d : Rgb) :
    (composeLine s l).getD x d = linePixel s (selectSprites s l) l x := by
  simp [composeLine, hx]

theorem renderLine_back (l : Nat) (s : State) :
    (renderLine l s).video.back = s.video.back.setRow s.params l (composeLine s l) := by
  rw [renderLine_video, Video.setBack_back]

/-- Settles O54: the back buffer by its rows, the rest by the update that replaces it. -/
theorem renderLineWritesOneRow : Obligations.RenderLineWritesOneRow := by
  intro l s hf hl
  refine ⟨fun x hx => ?_, fun x y hy => ?_, ?_, ?_⟩
  · rw [renderLine_back, Frame.pixel, Frame.row_setRow_same hf hl, composeLine_getD s l hx]
  · rw [renderLine_back, Frame.pixel, Frame.row_setRow_other hf hy, Frame.pixel]
  · rw [renderLine_video, Video.setBack_front]
  · unfold renderLine
    rw [Video.setBack_eq]
    rfl

/-! ### The selection of sprites -/

theorem insertByX_perm (e : SpriteEntry) (l : List SpriteEntry) : (insertByX e l).Perm (l ++ [e]) := by
  induction l with
  | nil => exact .refl _
  | cons e' l ih =>
    unfold insertByX
    split
    · exact (List.perm_append_singleton e (e' :: l)).symm
    · exact ih.cons e'

/-- Inserting keeps the order by x (R481). -/
theorem insertByX_sorted (e : SpriteEntry) {l : List SpriteEntry} (h : l.Pairwise fun e f => e.x.toNat ≤ f.x.toNat) :
    (insertByX e l).Pairwise fun e f => e.x.toNat ≤ f.x.toNat := by
  induction l with
  | nil => exact List.pairwise_singleton _ e
  | cons e' l ih =>
    obtain ⟨hfirst, hrest⟩ := List.pairwise_cons.mp h
    unfold insertByX
    split
    · next hlt =>
      refine List.pairwise_cons.mpr ⟨fun f hf => ?_, h⟩
      obtain rfl | hf := List.mem_cons.mp hf
      · exact Nat.le_of_lt hlt
      · exact Nat.le_trans (Nat.le_of_lt hlt) (hfirst f hf)
    · next hle =>
      refine List.pairwise_cons.mpr ⟨fun f hf => ?_, ih hrest⟩
      obtain hf | hf := List.mem_append.mp ((insertByX_perm e l).mem_iff.mp hf)
      · exact hfirst f hf
      · rw [List.mem_singleton.mp hf]
        exact Nat.le_of_not_lt hle

/-- Among those of its own x the inserted sprite comes last (R481). -/
theorem filter_insertByX (e : SpriteEntry) {l : List SpriteEntry} (h : l.Pairwise fun e f => e.x.toNat ≤ f.x.toNat) (k : Byte) :
    (insertByX e l).filter (fun e => e.x == k) = (l ++ [e]).filter fun e => e.x == k := by
  induction l with
  | nil => rfl
  | cons e' l ih =>
    obtain ⟨hfirst, hrest⟩ := List.pairwise_cons.mp h
    unfold insertByX
    split
    · next hlt =>
      by_cases hk : e.x = k
      · have hlater : (e' :: l).filter (fun e => e.x == k) = [] := List.filter_eq_nil_iff.mpr fun f hf hx => by
          have hfk : f.x = e.x := (beq_iff_eq.mp hx).trans hk.symm
          obtain rfl | hf := List.mem_cons.mp hf
          · exact absurd (congrArg BitVec.toNat hfk) (Nat.ne_of_gt hlt)
          · exact absurd (congrArg BitVec.toNat hfk) (Nat.ne_of_gt (Nat.lt_of_lt_of_le hlt (hfirst f hf)))
        rw [List.filter_append, List.filter_cons, hlater]
        simp [hk]
      · rw [List.filter_append, List.filter_cons_of_neg (by simpa using hk)]
        simp [hk]
    · rw [List.cons_append, List.filter_cons, List.filter_cons, ih hrest]

theorem sortByX_append (l : List SpriteEntry) (e : SpriteEntry) : sortByX (l ++ [e]) = insertByX e (sortByX l) := by
  simp [sortByX]

/-- The sort puts the same sprites in order of x, those of equal x in the order they had (R481). -/
theorem sortByX_stable (l : List SpriteEntry) :
    (sortByX l).Pairwise (fun e f => e.x.toNat ≤ f.x.toNat) ∧ (sortByX l).Perm l ∧
      ∀ k : Byte, (sortByX l).filter (fun e => e.x == k) = l.filter fun e => e.x == k := by
  induction l using List.reverseRecOn with
  | nil => exact ⟨.nil, .nil, fun _ => rfl⟩
  | append_singleton l e ih =>
    obtain ⟨hsorted, hperm, hfilter⟩ := ih
    rw [sortByX_append]
    refine ⟨insertByX_sorted e hsorted, (insertByX_perm e _).trans (hperm.append_right _), fun k => ?_⟩
    rw [filter_insertByX e hsorted, List.filter_append, List.filter_append, hfilter]

/-- The first ten entries of OAM that cover the line (R481). -/
def foundSprites (s : State) (l : Nat) : List SpriteEntry :=
  (((List.range 40).map (spriteEntry s.mem.oam)).filter (spriteCovers s l)).take 10

theorem mem_foundSprites {s : State} {l : Nat} {e : SpriteEntry} (h : e ∈ foundSprites s l) :
    ∃ i, i < 40 ∧ e = spriteEntry s.mem.oam i ∧ e.y.toNat ≤ l + 16 ∧ l + 16 < e.y.toNat + spriteHeight s := by
  obtain ⟨hentry, hcovers⟩ := List.mem_filter.mp (List.mem_of_mem_take h)
  obtain ⟨i, hi, rfl⟩ := List.mem_map.mp hentry
  exact ⟨i, List.mem_range.mp hi, rfl, of_decide_eq_true hcovers⟩

theorem selectSprites_off {s : State} (h : s.video.lcdc.objEn = false) (l : Nat) : selectSprites s l = [] :=
  if_neg (by simp [h])

theorem selectSprites_cgb {s : State} (h : s.video.lcdc.objEn = true) (hm : s.mode = .cgb) (l : Nat) :
    selectSprites s l = foundSprites s l := by
  unfold selectSprites
  rw [if_pos h, hm]
  rfl

theorem selectSprites_dmg {s : State} (h : s.video.lcdc.objEn = true) (hm : s.mode = .dmg) (l : Nat) :
    selectSprites s l = sortByX (foundSprites s l) := by
  unfold selectSprites
  rw [if_pos h, hm]
  rfl

/-- What is selected is nothing, or the sprites found in some order (R481). -/
theorem selectSprites_cases (s : State) (l : Nat) :
    selectSprites s l = [] ∨ (selectSprites s l).Perm (foundSprites s l) := by
  cases hobj : s.video.lcdc.objEn
  · exact .inl (selectSprites_off hobj l)
  · cases hm : s.mode
    · rw [selectSprites_dmg hobj hm]
      exact .inr (sortByX_stable _).2.1
    · rw [selectSprites_cgb hobj hm]
      exact .inr (.refl _)

/-! ### Priority -/

theorem linePixel_of_none {s : State} {sprites : List SpriteEntry} {l x : Nat} (h : spritePixel s l x sprites = none) :
    linePixel s sprites l x = (bgWinPixel s l x).rgb := by
  unfold linePixel
  rw [h]

theorem linePixel_of_some {s : State} {sprites : List SpriteEntry} {l x : Nat} {rgb : Rgb} {below : Bool}
    (h : spritePixel s l x sprites = some (rgb, below)) :
    linePixel s sprites l x = if hiddenSprite s (bgWinPixel s l x) below then (bgWinPixel s l x).rgb else rgb := by
  unfold linePixel
  rw [h]

/-- In legacy mode a sprite behind the background hides where the background is not colour 0 (R487). -/
theorem hiddenSprite_dmg {s : State} (hm : s.mode = .dmg) (bg : BgPixel) (below : Bool) :
    hiddenSprite s bg below = true ↔ bg.idx ≠ 0 ∧ below = true := by
  simp [hiddenSprite, hm]

/-- In colour mode also only with the background on and a tile that is not forced above (R487). -/
theorem hiddenSprite_cgb {s : State} (hm : s.mode = .cgb) (bg : BgPixel) (below : Bool) :
    hiddenSprite s bg below = true ↔ s.video.lcdc.bgEn = true ∧ bg.idx ≠ 0 ∧ below = true ∧ bg.above = false := by
  simp [hiddenSprite, hm, and_assoc]

theorem windowHolds_iff (s : State) (l x : Nat) : windowHolds s l x = true ↔
    s.video.lcdc.winEn = true ∧ (s.ioRaw 0x4A).toNat ≤ l ∧ (s.ioRaw 0x4B).toNat ≤ x + 7 := by
  simp [windowHolds, and_assoc]

/-- With the background off in legacy mode, no window: colour 0 (R483). -/
theorem bgWinPixel_blank {s : State} {l x : Nat} (hw : ¬windowHolds s l x = true) (hm : s.mode = .dmg)
    (hb : s.video.lcdc.bgEn = false) : bgWinPixel s l x = { idx := 0, rgb := s.params.blank, above := false } := by
  unfold bgWinPixel
  rw [if_neg hw, if_neg (by simp [hm, hb])]

/-- Settles O55: the selection by the mode; the priority by whether the rule hides the sprite. -/
theorem spritesAndPriority : Obligations.SpritesAndPriority := by
  refine ⟨fun s l => ⟨?_, fun e he => ?_, fun hobj => selectSprites_off hobj l, fun hm => ?_,
    fun hobj => ⟨fun hm => selectSprites_cgb hobj hm l, fun hm => ?_⟩⟩, fun s sprites l x => ⟨linePixel_of_none,
    fun rgb below hsprite => ⟨fun hm hb => ?_, fun hm => ?_, fun hm hb => ?_⟩, fun hm hb hoff => ?_⟩⟩
  · obtain hnone | hperm := selectSprites_cases s l
    · simp [hnone]
    · rw [hperm.length_eq]
      exact List.length_take_le 10 _
  · obtain hnone | hperm := selectSprites_cases s l
    · simp [hnone] at he
    · exact mem_foundSprites (hperm.mem_iff.mp he)
  · cases hobj : s.video.lcdc.objEn
    · rw [selectSprites_off hobj]
      exact .nil
    · rw [selectSprites_dmg hobj hm]
      exact (sortByX_stable _).1
  · rw [selectSprites_dmg hobj hm]
    exact (sortByX_stable _).2
  · rw [linePixel_of_some hsprite, if_neg]
    rw [hiddenSprite_cgb hm, hb]
    exact fun h => absurd h.1 (by decide)
  · rw [linePixel_of_some hsprite]
    simp only [hiddenSprite_dmg hm]
  · rw [linePixel_of_some hsprite]
    simp only [hiddenSprite_cgb hm, hb, true_and]
  · refine bgWinPixel_blank (fun hw => ?_) hm hb
    obtain ⟨hwin, hline, -⟩ := (windowHolds_iff s l x).mp hw
    obtain hoff | hoff := hoff
    · exact absurd (hwin.symm.trans hoff) (by decide)
    · omega

/-! ### Tiles -/

theorem vramAt_eq (s : State) (bank : Bool) (addr : Nat) :
    s.vramAt bank addr = s.mem.vram.read ((if bank then 0x2000 else 0) + (addr - 0x8000)) := by
  cases bank <;> simp [State.vramAt, bitNat]

/-- A colour index from its two bit planes (R472). -/
theorem tilePixel_eq (s : State) (bank : Bool) (addr r c : Nat) : tilePixel s bank addr r c =
    (s.vramAt bank (addr + 2 * r + 1)).toNat / 2 ^ (7 - c) % 2 * 2 + (s.vramAt bank (addr + 2 * r)).toNat / 2 ^ (7 - c) % 2 := by
  unfold tilePixel
  dsimp only
  rw [bitNat_getLsbD, bitNat_getLsbD, Nat.mul_comm 2]

/-- The two tile-data areas (R473). -/
theorem bgTileAddr_eq (lcdc : Lcdc) (idx : Byte) : (bgTileAddr lcdc idx : Int) =
    if lcdc.tileData then 0x8000 + 16 * (idx.toNat : Int)
    else 0x9000 + 16 * (if idx.toNat < 128 then (idx.toNat : Int) else idx.toNat - 256) := by
  have hsigned : idx.toInt = if idx.toNat < 128 then (idx.toNat : Int) else idx.toNat - 256 := by
    rw [BitVec.toInt_eq_toNat_cond]
    split <;> split <;> omega
  have hlt := idx.isLt
  unfold bgTileAddr
  split
  · omega
  · rw [hsigned]
    split <;> omega

/-! ### Colours -/

theorem grayLevel_eq (g : Gray) (v : BitVec 2) : grayLevel g v =
    if v.toNat = 0 then g.shade0 else if v.toNat = 1 then g.shade1 else if v.toNat = 2 then g.shade2 else g.shade3 := by
  obtain ⟨n, hn⟩ := v
  interval_cases n <;> rfl

/-- An entry of a legacy palette (R461, R488). -/
theorem toNat_dmgEntry (pal : Byte) (idx : Nat) : (pal.extractLsb' (2 * idx) 2).toNat = pal.toNat / 4 ^ idx % 4 := by
  rw [BitVec.extractLsb'_toNat, Nat.shiftRight_eq_div_pow, Nat.pow_mul]

theorem bgColour_dmg {s : State} (hm : s.mode = .dmg) (pal : BitVec 3) (idx : Nat) :
    bgColour s pal idx = dmgColour s.params (s.ioRaw 0x47) idx := by
  unfold bgColour
  rw [hm]

theorem bgColour_cgb {s : State} (hm : s.mode = .cgb) (pal : BitVec 3) (idx : Nat) :
    bgColour s pal idx = cgbColour s.params s.video.bgPal pal idx := by
  unfold bgColour
  rw [hm]

theorem objColour_dmg {s : State} (hm : s.mode = .dmg) (e : SpriteEntry) (idx : Nat) :
    objColour s e idx = dmgColour s.params (if e.dmgPal then s.ioRaw 0x49 else s.ioRaw 0x48) idx := by
  unfold objColour
  rw [hm]

theorem objColour_cgb {s : State} (hm : s.mode = .cgb) (e : SpriteEntry) (idx : Nat) :
    objColour s e idx = cgbColour s.params s.video.objPal e.cgbPal idx := by
  unfold objColour
  rw [hm]

theorem scale5_eq (p : Params) (v : BitVec 5) : scale5 p v = p.scale5.toList.getD v.toNat 0 := by
  have hlt : v.toNat < p.scale5.toList.length := by
    rw [Vector.length_toList]
    exact v.isLt
  rw [List.getD_eq_getElem _ _ hlt]
  rfl

/-- An entry of a colour palette memory, low byte first, five bits a channel (R489, R496). -/
theorem cgbColour_eq (p : Params) (m : Bytes) (pal : BitVec 3) (idx : Nat) : cgbColour p m pal idx =
    let e := (m.read (8 * pal.toNat + 2 * idx)).toNat + 256 * (m.read (8 * pal.toNat + 2 * idx + 1)).toNat
    { r := p.scale5.toList.getD (e % 32) 0, g := p.scale5.toList.getD (e / 32 % 32) 0
      b := p.scale5.toList.getD (e / 1024 % 32) 0 } := by
  have hentry (hi lo : Byte) : hi.toNat * 256 + lo.toNat = lo.toNat + 256 * hi.toNat := by omega
  unfold cgbColour
  simp only [scale5_eq, BitVec.extractLsb'_toNat, Nat.shiftRight_eq_div_pow, word16_toNat, hentry, Nat.reducePow, Nat.div_one]

/-! ### Background and window -/

/-- The attributes of the tile at map address `m`: none in legacy mode (R484). -/
def tileAttributes (s : State) (m : Nat) : Byte := if s.mode = .cgb then s.vramAt true m else 0

theorem sampleTile_eq (s : State) (base py px : Nat) : sampleTile s base py px =
    let m := base + 32 * (py / 8) + px / 8
    let attr := tileAttributes s m
    let idx := tilePixel s (attr.getLsbD 3) (bgTileAddr s.video.lcdc (s.vramAt false m))
      (if attr.getLsbD 6 then 7 - py % 8 else py % 8) (if attr.getLsbD 5 then 7 - px % 8 else px % 8)
    { idx := idx, rgb := bgColour s (BitVec.ofNat 3 attr.toNat) idx, above := attr.getLsbD 7 } := by
  unfold sampleTile tileAttributes
  dsimp only
  rw [extractLsb'_eq_ofNat]
  cases s.mode <;> rfl

theorem bgWinPixel_window {s : State} {l x : Nat} (hw : windowHolds s l x = true) : bgWinPixel s l x =
    sampleTile s (mapBase s.video.lcdc.winMap) (l - (s.ioRaw 0x4A).toNat) (x + 7 - (s.ioRaw 0x4B).toNat) :=
  if_pos hw

theorem bgWinPixel_background {s : State} {l x : Nat} (hw : ¬windowHolds s l x = true)
    (hb : s.mode = .cgb ∨ s.video.lcdc.bgEn = true) : bgWinPixel s l x =
    sampleTile s (mapBase s.video.lcdc.bgMap) ((l + (s.ioRaw 0x42).toNat) % 256) ((x + (s.ioRaw 0x43).toNat) % 256) :=
  (if_neg hw).trans (if_pos hb)

/-! ### Sprites -/

theorem spriteIndex_outside {s : State} {e : SpriteEntry} {l x : Nat}
    (h : ¬(e.x.toNat ≤ x + 8 ∧ x + 8 < e.x.toNat + 8)) : spriteIndex s e l x = none :=
  if_neg h

/-- A sprite of two tiles begins at an even one (R486). -/
theorem toNat_and_FE (v : Byte) : (v &&& 0xFE).toNat = v.toNat / 2 * 2 := by
  revert v
  decide

theorem spriteIndex_inside {s : State} {e : SpriteEntry} {l x : Nat} (h : e.x.toNat ≤ x + 8 ∧ x + 8 < e.x.toNat + 8) :
    spriteIndex s e l x = some (tilePixel s (decide (s.mode = .cgb) && e.bank)
      (0x8000 + 16 * if s.video.lcdc.objSize then e.tile.toNat / 2 * 2 else e.tile.toNat)
      (if e.yflip then spriteHeight s - 1 - (l + 16 - e.y.toNat) else l + 16 - e.y.toNat)
      (if e.xflip then 7 - (x + 8 - e.x.toNat) else x + 8 - e.x.toNat)) := by
  have htile : (if s.video.lcdc.objSize then e.tile &&& 0xFE else e.tile : Byte).toNat =
      if s.video.lcdc.objSize then e.tile.toNat / 2 * 2 else e.tile.toNat := by
    rw [← toNat_and_FE]
    split <;> rfl
  rw [← htile]
  exact if_pos h

/-- The sprite that shows is the first whose index is not 0 (R486). -/
theorem spritePixel_eq_find (s : State) (l x : Nat) (sprites : List SpriteEntry) : spritePixel s l x sprites =
    (sprites.find? fun e => decide (0 < (spriteIndex s e l x).getD 0)).map fun e =>
      (objColour s e ((spriteIndex s e l x).getD 0), e.below) := by
  induction sprites with
  | nil => rfl
  | cons e rest ih =>
    unfold spritePixel
    cases hindex : spriteIndex s e l x with
    | none => simp [List.find?, hindex, ih]
    | some idx =>
      by_cases hzero : idx = 0
      · simp [List.find?, hindex, hzero, ih]
      · simp [List.find?, hindex, hzero, Nat.pos_of_ne_zero hzero]

/-- Settles O56: the planes and the tile areas, the colours by the mode, the sample by where it is taken, the sprites. -/
theorem tilesAndColours : Obligations.TilesAndColours := by
  intro s vram gray colour sample win
  have hvram : s.vramAt = vram := funext fun bank => funext fun addr => vramAt_eq s bank addr
  have hsample (base py px : Nat) : sampleTile s base py px = sample base py px := by
    rw [sampleTile_eq, hvram]
    unfold tileAttributes
    rw [hvram]
  have hdmg (pal : Byte) (idx : Nat) : dmgColour s.params pal idx = gray (pal.toNat / 4 ^ idx % 4) := by
    unfold dmgColour
    rw [grayLevel_eq, toNat_dmgEntry]
  have hwin (l x : Nat) : windowHolds s l x = true ↔ win l x := by
    rw [windowHolds_iff]
    show _ ↔ _ ∧ _ ∧ ((s.ioRaw 0x4B).toNat : Int) - 7 ≤ x
    rw [show ((s.ioRaw 0x4B).toNat : Int) - 7 ≤ x ↔ (s.ioRaw 0x4B).toNat ≤ x + 7 by omega]
  refine ⟨fun bank addr r c _ _ => ?_, bgTileAddr_eq s.video.lcdc, fun pal e idx _ => ⟨fun hm => ?_, fun hm => ?_⟩,
    fun l x => ⟨fun h => ?_, fun h hb => ?_, fun h => bgWinPixel_blank (mt (hwin l x).mp h)⟩, fun e l x => ?_,
    spritePixel_eq_find s⟩
  · rw [tilePixel_eq, hvram]
  · rw [bgColour_dmg hm, objColour_dmg hm, hdmg, hdmg]
    exact ⟨rfl, rfl⟩
  · rw [bgColour_cgb hm, objColour_cgb hm, cgbColour_eq, cgbColour_eq]
    exact ⟨rfl, rfl⟩
  · rw [bgWinPixel_window ((hwin l x).mpr h), hsample]
    rfl
  · rw [bgWinPixel_background (mt (hwin l x).mp h) hb, hsample]
    rfl
  · intro height left top row col tile
    refine ⟨fun h => spriteIndex_outside (by omega), fun hleft hright htop hbottom => ?_⟩
    have hrow : row = l + 16 - e.y.toNat := by omega
    have hcol : col = x + 8 - e.x.toNat := by omega
    rw [spriteIndex_inside (by omega), hrow, hcol]
    rfl

end Sys2Proof.Machine
